-- ==== Sys2Proof/Word.lean ====
section
/-! DEFINITION. The word and byte of common memory and of the lines.
Common memory is organised as 32-bit words and every access is one whole word (00_scope, Conventions). -/

namespace Sys2Proof

/-- A 32-bit word of common memory or of the register port. -/
abbrev Word := BitVec 32

/-- A byte of a line frame, a mark, or of common memory. -/
abbrev Byte := BitVec 8

end Sys2Proof
end

