-- ==== Sys2Proof/Syntax.lean ====
section
/-! DEFINITION. The commands of the block: one constructor for each row of spec/opcode_table.json.
The table gives its rows no operand fields. The operands below are what the rule of each row says arrives with
the event: a gate, a line, the bytes of a mark, the samples of a sense input (log entries 1 and 2). -/

namespace Sys2Proof

/-- A gate number, 0 to 7; it also names the door channel of that gate. -/
abbrev Gate := Fin 8

/-- A bell line number, 0 to 7. -/
abbrev LineNo := Fin 8

/-- A reader link number, 0 to 3. -/
abbrev LinkNo := Fin 4

/-- One 1 ms sample of a strike coil: its current in units of 4 mA (R131) and its voltage in mV (R136, log entry 9). -/
structure CoilSample where
  current : Nat
  millivolts : Nat
  deriving DecidableEq, Repr

/-- The level of a door contact (R127). -/
inductive Contact where
  | opened
  | closed
  deriving DecidableEq, Repr

/-- The registers with no behaviour on a write (R187). -/
inductive ReadOnlyRegister where
  | ident
  | journalFill
  deriving DecidableEq, Repr

/-- The commands: the steps of the part, each whole and indivisible. -/
inductive Instr where
  /-- The part is powered; `supply` is the first sample of the coil supply, in 0.1 V (R151). -/
  | powerUp (supply : Nat)
  /-- The HOST RESTART input is asserted (R200). -/
  | hostRestart
  /-- 50 ms of the oscillator (R1). -/
  | tick
  /-- The 50 ms of the oscillator at which the second count passes 59 (R1, R9). -/
  | localMinuteRoll
  /-- The four bytes of a mark on the plant master clock line, in their order (R3). -/
  | mark (hi lo dow check : Byte)
  /-- The link controller sends the next poll of a link (R18, R19). -/
  | poll (link : LinkNo)
  /-- No start bit begins within 6 ms of the end of the poll on a link (R20). -/
  | noResponse (link : LinkNo)
  /-- A response frame ends on a link: its bytes, and whether every byte had its stop bit (R20, R22). -/
  | responseFrame (link : LinkNo) (bytes : List Byte) (stopBits : Bool)
  /-- The attendance engine judges the n-th of the presentations handed over and not yet judged (R66, R67). -/
  | presentation (n : Nat)
  /-- A reported IN at the head of a gate's queue commits, PASSED or free (R83). -/
  | commitIn (g : Gate)
  /-- A reported OUT at the head of a gate's queue commits, PASSED or free (R84). -/
  | commitOut (g : Gate)
  /-- A punch reported NOT_PASSED at the head of a gate's queue commits (R85). -/
  | commitNotPassed (g : Gate)
  /-- A punch reported VOIDED at the head of a gate's queue commits (R86). -/
  | commitVoided (g : Gate)
  /-- A running sweep tests the worker at its cursor (R120). -/
  | sweepTest
  /-- A host write to ORDER POINTER (R195). -/
  | orderPointerWrite (w : Word)
  /-- The walk reads the next order block (R196). -/
  | orderBlock
  /-- The order in hand is SET TIME and its owner executes it (R14). -/
  | setTime
  /-- The order in hand is INSTALL WORKER TABLE and its owner begins it (R42). -/
  | installWorkerTable
  /-- An install that has verified its table enters CARRY (R43). -/
  | carryBegin
  /-- The carry takes a badge of both tables (R44). -/
  | matchedStep
  /-- The carry takes a badge of the old table only (R45). -/
  | oldOnlyStep
  /-- The carry takes a badge of the new table only (R46). -/
  | newOnlyStep
  /-- The order in hand is AMEND WORKER (R50). -/
  | amendWorker
  /-- The order in hand is SET PRESENCE (R51, R52). -/
  | setPresence
  /-- The order in hand is TAKE TOTALS and its owner begins it (R125). -/
  | takeTotals
  /-- TAKE TOTALS takes the next worker of its range (R126). -/
  | takeTotalsWorker
  /-- The order in hand is SETTLE EXCEPTION (R118). -/
  | settleException
  /-- The order in hand is INSTALL SHIFT TABLE (R58). -/
  | installShiftTable
  /-- The order in hand is INSTALL BELL TABLE (R160). -/
  | installBellTable
  /-- The order in hand is SET GATE (R149). -/
  | setGate
  /-- The order in hand is REARM DOOR (R141). -/
  | rearmDoor
  /-- The order in hand is FREE PASSAGE (R170). -/
  | freePassage
  /-- The order in hand is RING (R169). -/
  | ring
  /-- The order in hand is SILENCE BELLS (R168). -/
  | silenceBells
  /-- The order in hand is CLEAR STATUS (R198). -/
  | clearStatus
  /-- The order in hand is JOURNAL RESTART (R182). -/
  | journalRestart
  /-- A host write to CONTROL (R191). -/
  | controlWrite (w : Word)
  /-- A common-memory access is not granted within 2 ms (R193); `cut` lists the words, each an address and a value,
  that the event cut by the fault had already written (R110, R178, log entry 8). -/
  | memoryFault (cut : List (Nat × Word))
  /-- A host write to ATTENTION (R199). -/
  | attentionWrite (w : Word)
  /-- A host write to ATTENTION ENABLE (R199). -/
  | attentionEnableWrite (w : Word)
  /-- A host write to IDENT or JOURNAL FILL (R187). -/
  | registerWrite (r : ReadOnlyRegister) (w : Word)
  /-- The alarm stretch timer expires (R147). -/
  | stretchTimerExpiry
  /-- Coil samples of a channel, the last of which completes the valley (R132). -/
  | valleyComplete (g : Gate) (samples : List CoilSample)
  /-- Coil samples of a channel, the last of which ends its hit (R133). -/
  | hitEnd (g : Gate) (samples : List CoilSample)
  /-- The open timer of a channel in HOLD expires (R135). -/
  | openTimerExpiry (g : Gate)
  /-- Coil samples of a channel, the last of which closes a resistance window (R136). -/
  | resistanceWindow (g : Gate) (samples : List CoilSample)
  /-- Contact samples of a channel, the last of which makes a debounced opening (R129). -/
  | contactOpening (g : Gate) (samples : List Contact)
  /-- Contact samples of a channel, the last of which makes a debounced closing (R129). -/
  | contactClosing (g : Gate) (samples : List Contact)
  /-- The held-open timer of a channel runs its limit (R137). -/
  | heldOpen (g : Gate)
  /-- Coil samples of a channel, the last of which trips the overcurrent (R139). -/
  | overcurrent (g : Gate) (samples : List CoilSample)
  /-- The once-a-second coil test of a channel, and whether it passed (R140). -/
  | openLoadTest (g : Gate) (passed : Bool)
  /-- Samples of the coil supply in 0.1 V, the last of which makes the supply LOW (R151, R152). -/
  | supplyLow (samples : List Nat)
  /-- Samples of the coil supply in 0.1 V, the last of which makes the supply NORMAL (R151, R153). -/
  | supplyNormal (samples : List Nat)
  /-- The local time reaches the send time of a gate's pending free send (R164). -/
  | pendingFreeSendDue (g : Gate)
  /-- A bell line claims the hit slot at a half second (R165, R167). -/
  | bellClaim (n : LineNo)
  /-- A bell line that holds the slot starts a pulse at a half second (R166). -/
  | pulseStart (n : LineNo)
  /-- 150 ms after a pulse started the bell line releases the slot (R166). -/
  | bellSlotRelease (n : LineNo)
  /-- The pulse of a bell line ends (R167). -/
  | pulseEnd (n : LineNo)
  /-- The SETTLE of a bell line ends (R167). -/
  | settleEnd (n : LineNo)
  /-- The journal writer's walk of the second (R180). -/
  | releaseWalk
  /-- The damaged journal writer's reread of the second (R181). -/
  | damageRecheck
  /-- One second has passed without a HOLD refusal (R183). -/
  | journalHoldExpiry
  /-- The checks of a start end (R189, R191). -/
  | startChecksDone
  /-- VERIFY takes the next new record (R42). -/
  | verifyNextRecord
  /-- Contact samples of a channel, the last of which takes the contact as it stands (R129). -/
  | contactTaken (g : Gate) (samples : List Contact)
  /-- Coil samples of a channel, the last of which sets MOVED (R131). -/
  | moved (g : Gate) (samples : List CoilSample)
  deriving DecidableEq, Repr

end Sys2Proof
end

