-- ==== Sys2Proof/Decode.lean ====
section
/-! DEFINITION. The command that a word spells by the bits of spec/opcode_table.json.
No row of the table gives any bits (its "fields" are empty and no row has a "fixed" pattern), so no word spells a command. -/

namespace Sys2Proof

/-- The command a word spells by the table's bits: none, for no row of the table gives bits (log entry 1). -/
def decodeTableWord (_nbits _w : Nat) : Option Instr := none

end Sys2Proof
end

