-- ==== Sys2Proof/Config.lean ====
section
/-! DEFINITION. What the spec leaves open: constants without a body, so that no proof can see their values. -/

namespace Sys2Proof

/-- The step of the design shown in IDENT bits 15–8: named by R187 and Record Formats, its value given nowhere. -/
opaque Config.designStep : BitVec 8

/-- A value the spec does not state: an output word of an order turned away, the slot field of a PUNCH_CLOSE that
took no slot. The argument is the count of free values used before it (log entry 5). -/
opaque Config.freeWord : Nat → Word

/-- The direction of a presentation at a ONE_READER gate for a presence code that names no presence: R68 gives none,
and only a direct host write can leave such a code (log entry 6). -/
opaque Config.reservedPresenceIsIn : Nat → Bool

end Sys2Proof
end

