-- ==== Sys2Proof/Machine/State.lean ====
section
/-! DEFINITION. The state of the GC-816: what each of its blocks owns, common memory, and the queue of commands.
The grouping into blocks is that of 00_scope, Functional overview. -/

namespace Sys2Proof.Machine

/-! ### Time base (R1, R2) -/

/-- The clock state (R2). -/
inductive ClockState where
  | unset
  | free
  | locked
  | resync
  deriving DecidableEq, Repr

/-- A minute of day and a day of week named by a master clock mark (R3). -/
structure ClockMark where
  minute : Nat
  dow : Nat
  deriving DecidableEq, Repr

/-- The counts and the clock state of the time base (R1). `osc` counts the 50 ms of the oscillator since power-up and is
never rewritten: it is the model's measure of the durations that other blocks time (log entry 3). -/
structure TimeBase where
  tick : Nat
  second : Nat
  minute : Nat
  day : Nat
  dow : Nat
  clock : ClockState
  lastMark : Option ClockMark
  candidate : Option ClockMark
  lm : Option Nat
  silence : Nat
  markErrors : Nat
  osc : Nat
  deriving DecidableEq, Repr

/-- A defined stamp: day number and second of day (00_scope, Stamps). An undefined stamp is `none`. -/
structure Stamp where
  day : Nat
  second : Nat
  deriving DecidableEq, Repr

/-! ### Link controller (R16–R33) -/

/-- The state of a reader position (R23). -/
inductive ReaderState where
  | absent
  | probing
  | online
  | offline
  deriving DecidableEq, Repr

/-- Where a position stands at its gate (R17). -/
inductive Role where
  | entry
  | exit
  deriving DecidableEq, Repr

/-- The code of an indication that is made (R27); NONE is the absence of one. -/
inductive IndCode where
  | accept
  | recorded
  | deny
  | wait
  deriving DecidableEq, Repr

/-- An outstanding indication (R27): its code, and the tone code meaningful with DENY. -/
structure Indication where
  code : IndCode
  tone : Nat
  deriving DecidableEq, Repr

/-- The record of one reader position (02, the table before R16). `probeDue` is a local absolute time in ticks. -/
structure Reader where
  state : ReaderState
  placed : Option (Gate × Role)
  failRun : Nat
  probeDue : Nat
  lastReport : Option Nat
  indCounter : Nat
  outstanding : Option Indication
  tamper : Bool
  sensorFault : Bool
  checkErrors : Nat
  noResponses : Nat
  frameErrors : Nat
  stales : Nat
  deriving DecidableEq, Repr

/-- The exchange in progress on a link (R20): the address polled and the poll frame sent. -/
structure Exchange where
  address : Fin 4
  frame : List Byte
  deriving DecidableEq, Repr

/-- One reader link line (R16, R18): the address at which the round resumes, and the exchange in progress. -/
structure Link where
  nextAddress : Fin 4
  exchange : Option Exchange
  deriving DecidableEq, Repr

/-! ### Attendance engine (R34–R88, R112–R126) -/

/-- A presentation as handed to the attendance engine (R31). -/
structure Presentation where
  position : Fin 16
  gate : Gate
  role : Role
  badge : Nat
  stamp : Option Stamp
  deriving DecidableEq, Repr

/-- The direction of a punch (R66). -/
inductive Direction where
  | inward
  | outward
  deriving DecidableEq, Repr

/-- The worker record a punch names: the table, by its base address, and the worker index (R39). -/
structure WorkerRef where
  base : Nat
  index : Nat
  deriving DecidableEq, Repr

/-- Why a punch was voided (R86). -/
inductive VoidCause where
  | noMove
  | overcurrent
  | loadOpen
  | supply
  deriving DecidableEq, Repr

/-- A passage outcome reported by the door and not yet committed (R81). -/
inductive PassageReport where
  | passed
  | notPassed
  | voided (cause : VoidCause)
  | free
  deriving DecidableEq, Repr

/-- A punch in flight, an entry of a passage queue (R80). Each entry holds a reservation of 12 journal words.
`report` is the door's outcome from its report until the commit of the entry (R81). -/
structure Punch where
  worker : WorkerRef
  direction : Direction
  position : Fin 16
  stamp : Option Stamp
  passbackSoft : Bool
  noMove : Bool
  report : Option PassageReport
  deriving DecidableEq, Repr

/-- A table in common memory: base address and count of entries. -/
structure Table where
  base : Nat
  count : Nat
  deriving DecidableEq, Repr

/-- The carry of a worker table install (R43–R46): the new table, the next index of the old and of the new table,
the carry cursor, the counts of the steps taken, and whether the walk has paused for journal room. -/
structure Carry where
  table : Table
  oldNext : Nat
  newNext : Nat
  cursor : Option Nat
  matchedSteps : Nat
  oldOnlySteps : Nat
  newOnlySteps : Nat
  paused : Bool
  deriving DecidableEq, Repr

/-- The install of a worker table (R40). In `verify` the index is that of the record to be checked, and the count while
the install waits under R43. -/
inductive Install where
  | idle
  | verify (table : Table) (index : Nat)
  | carry (c : Carry)
  deriving DecidableEq, Repr

/-- The state of the closing sweep (R119). -/
inductive SweepState where
  | idle
  | running
  | paused
  deriving DecidableEq, Repr

/-- TAKE TOTALS in progress (R126): the first index, the count, the destination, the workers taken, the UNSETTLED count. -/
structure TakeTotals where
  first : Nat
  count : Nat
  dest : Nat
  taken : Nat
  unsettled : Nat
  deriving DecidableEq, Repr

/-- The exception classes (R109), the codes of an exception slot (R112). -/
inductive ExcClass where
  | missingIn
  | missingOut
  | spanLimit
  | unsetTime
  | totalOverflow
  deriving DecidableEq, Repr

/-- The last-exception section (R113). -/
structure LastException where
  code : Option ExcClass
  slot : Nat
  badge : Nat
  deriving DecidableEq, Repr

/-- What the attendance engine and its pay calculator own outside common memory. -/
structure Engine where
  workers : Option Table
  shift : Option Nat
  exceptions : Option Table
  handed : List Presentation
  queues : Vector (List Punch) 8
  sweep : SweepState
  sweepCursor : Nat
  sweepPending : Bool
  install : Install
  takeTotals : Option TakeTotals
  lastException : LastException
  deriving DecidableEq, Repr

/-! ### Door drive (R127–R150) -/

/-- The door states (R127). -/
inductive DoorState where
  | idle
  | claim
  | hit
  | hold
  | closing
  | free
  | outOfService
  deriving DecidableEq, Repr

/-- The cycle kind, meaningful in CLAIM and HIT (R127). -/
inductive CycleKind where
  | punch
  | free
  deriving DecidableEq, Repr

/-- The movement substates (R131, R132). -/
inductive Substate where
  | search
  | seekDip
  | seekValley
  | recover
  deriving DecidableEq, Repr

/-- The movement values of a hit (R127, R131, R132). `ms` is the time of the last sample, in ms from the hit start.
`earlyOpening` is the early opening noted by R129, `openAtStart` that the contact stood OPEN at the hit start (R133). -/
structure Movement where
  substate : Substate
  ms : Nat
  peak : Nat
  peakTime : Nat
  valley : Nat
  valleyTime : Nat
  dipRun : Nat
  runMin : Nat
  runMinTime : Nat
  moved : Bool
  written : Bool
  earlyOpening : Bool
  openAtStart : Bool
  deriving DecidableEq, Repr

/-- The measures of the last hit (R132); valley, reaction time and travel time are none without MOVED. -/
structure Measures where
  peak : Nat
  valley : Option Nat
  reaction : Option Nat
  travel : Option Nat
  deriving DecidableEq, Repr

/-- The latched flags of a channel (R127). -/
structure DoorFlags where
  overcurrent : Bool
  loadOpen : Bool
  coilHot : Bool
  hitNotReached : Bool
  noMove : Bool
  forced : Bool
  heldOpen : Bool
  deriving DecidableEq, Repr

/-- The no-move policy (R128, R134). -/
inductive NoMovePolicy where
  | proceed
  | abort
  deriving DecidableEq, Repr

/-- The passage mode (R128, R135). -/
inductive PassageMode where
  | contact
  | timed
  deriving DecidableEq, Repr

/-- A channel's copy of its drive parameters (R128). -/
structure DoorParams where
  iStart : Nat
  iDip : Nat
  iChk : Nat
  deglitch : Nat
  hitMax : Nat
  endHitAuto : Bool
  policy : NoMovePolicy
  holdDuty : Nat
  openTime : Nat
  mode : PassageMode
  heldLimit : Nat
  rHot : Nat
  freeAllowed : Bool
  deriving DecidableEq, Repr

/-- One door channel (R127). Timers hold the oscillator count at which they were started.
`rawLevel` and `rawRun` are the level of the last contact sample and the samples it has held for (R129); `settling` is set
from the start of supervision until the contact is taken. `overRun` is the run of overcurrent samples (R139).
`winCount`, `winMillivolts`, `winCurrent` are the samples and sums of the resistance window (R136). `served` names the served entry by its worker record (log entry 72).
`heldRaised` says that HELD_OPEN has been raised for the present standing open
(R137, log entry 34). -/
structure Door where
  state : DoorState
  cycle : CycleKind
  served : Option WorkerRef
  movement : Movement
  measures : Measures
  lastResistance : Nat
  overcurrentHold : Bool
  openLoadHold : Bool
  passRun : Nat
  freeEnd : Option Nat
  freePending : Bool
  contact : Contact
  rawLevel : Contact
  rawRun : Nat
  settling : Bool
  forcedUnresolved : Bool
  heldUnresolved : Bool
  heldRaised : Bool
  heldTimer : Option Nat
  openTimer : Option Nat
  overRun : Nat
  winCount : Nat
  winMillivolts : Nat
  winCurrent : Nat
  flags : DoorFlags
  equipped : Bool
  params : Option DoorParams
  deriving DecidableEq, Repr

/-! ### Supply monitor and hit arbiter (R151–R158) -/

/-- The supply state (R151). -/
inductive SupplyState where
  | normal
  | low
  deriving DecidableEq, Repr

/-- The supply monitor (R151). -/
structure Supply where
  state : SupplyState
  lowRun : Nat
  recoveryRun : Nat
  deriving DecidableEq, Repr

/-- The sixteen claimants of the hit slot (09, before R154). -/
inductive Claimant where
  | door (g : Gate)
  | line (n : LineNo)
  deriving DecidableEq, Repr

/-- The hit arbiter (R154): the holder, and the request list, oldest at the head. -/
structure Arbiter where
  holder : Option Claimant
  requests : List Claimant
  deriving DecidableEq, Repr

/-! ### Bell sequencer (R159–R173) -/

/-- The line states (R161). -/
inductive LineState where
  | idle
  | delay
  | claim
  | on
  | gap
  | settle
  deriving DecidableEq, Repr

/-- A pattern instance (R161); `entry` none for a RING, `due` none for "at once", else a local absolute time in ticks. -/
structure Pattern where
  entry : Option Nat
  pulses : Nat
  onTime : Nat
  gap : Nat
  due : Option Nat
  deriving DecidableEq, Repr

/-- One bell line (R161). `phaseEnds` is the oscillator count at which the pulse, the gap or the SETTLE ends, and
`releaseAt` the one at which the line releases the slot, 150 ms after the pulse start (R166). -/
structure Line where
  state : LineState
  queue : List Pattern
  minOn : Nat
  pulsesDone : Nat
  granted : Bool
  cut : Bool
  phaseEnds : Nat
  releaseAt : Option Nat
  deriving DecidableEq, Repr

/-- A pending free send (R164): a send time in local absolute ticks, an end minute and the entry it came from. -/
structure FreeSend where
  sendTime : Nat
  endMinute : Nat
  entry : Nat
  deriving DecidableEq, Repr

/-- The bell sequencer (R159, R161, R164, R168). -/
structure Bells where
  current : Option Table
  pendingTable : Option Table
  silenceEnd : Option Nat
  lines : Vector Line 8
  freeSends : Vector (Option FreeSend) 8
  deriving DecidableEq, Repr

/-! ### Journal writer (R174–R186) -/

/-- The journal region: the byte addresses of its first and last word (R174). -/
structure Region where
  first : Nat
  last : Nat
  deriving DecidableEq, Repr

/-- The journal writer (R174, R183, R184). `holdTimer` is the oscillator count of the last HOLD refusal, while JOURNAL_HOLD
is active (R183). `roomGiven` is set within an event that gives room back, and cleared when the room is offered at the end
of that event (R176, log entry 12). -/
structure Journal where
  region : Option Region
  writePos : Nat
  readPos : Nat
  used : Nat
  reserved : Nat
  nextSeq : Nat
  oldestSeq : Nat
  unreleased : Nat
  damaged : Bool
  holdLevel : Nat
  threshold : Nat
  denialsUnrecorded : Nat
  noticesLost : Nat
  holdTimer : Option Nat
  roomGiven : Bool
  deriving DecidableEq, Repr

/-! ### Order unit (R194–R197) -/

/-- The fifteen orders, in the order of the catalogue under R197. -/
inductive Order where
  | setTime
  | installWorkerTable
  | amendWorker
  | setPresence
  | takeTotals
  | settleException
  | installShiftTable
  | installBellTable
  | setGate
  | rearmDoor
  | freePassage
  | ring
  | silenceBells
  | clearStatus
  | journalRestart
  deriving DecidableEq, Repr

/-- The order handed to its owner (R196): the order, its parameters and the link word as read at step 2.
`aborted` is set when an abort reaches it before its VERIFY has begun (log entry 14). -/
structure InHand where
  order : Order
  params : List Word
  link : Word
  aborted : Bool
  deriving DecidableEq, Repr

/-- The order unit (R195). -/
structure OrderUnit where
  walking : Bool
  current : Nat
  endMark : Bool
  inHand : Option InHand
  deriving DecidableEq, Repr

/-! ### Control and attention (R187–R193, R198–R200) -/

/-- The run state (R191). -/
inductive RunState where
  | stopped
  | starting
  | running
  | stopping
  | faulted
  deriving DecidableEq, Repr

/-- The start result codes (13.9). -/
inductive StartResult where
  | none
  | started
  | cancelled
  | signature
  | version
  | workerTable
  | shiftTable
  | gateTable
  | bellTable
  | exceptionSlot
  | region
  | overlap
  | journal
  deriving DecidableEq, Repr

/-- The ten latched causes, in the order of the table of R199. -/
structure Latched where
  ordersDone : Bool
  orderRefused : Bool
  startFailed : Bool
  payException : Bool
  doorFault : Bool
  time : Bool
  reader : Bool
  releaseInvalid : Bool
  journalDamaged : Bool
  memoryFault : Bool
  deriving DecidableEq, Repr

/-- Control and attention. `enables` is the register ATTENTION ENABLE, one bit per cause (R187). `gateTable` is the base
address of the gate table read from the anchor at start. `alarm` says the alarm output is driven, and `stretch` holds the
oscillator count at which the stretch timer was started (R147). -/
structure Control where
  runState : RunState
  runRequest : Bool
  startResult : StartResult
  startIndex : Nat
  statusBlock : Option Nat
  gateTable : Option Nat
  latched : Latched
  enables : BitVec 12
  alarm : Bool
  stretch : Option Nat
  deriving DecidableEq, Repr

/-! ### The state -/

/-- Common memory: its bytes in rising order of address, with no byte that an unlisted address reads as (log entry 4). -/
abbrev Memory := List Host.Cell

/-- The whole state of the part, with common memory, the count of free values used, and the queue of commands. -/
structure State where
  time : TimeBase
  readers : Vector Reader 16
  links : Vector Link 4
  engine : Engine
  doors : Vector Door 8
  supply : Supply
  arbiter : Arbiter
  bells : Bells
  journal : Journal
  orders : OrderUnit
  control : Control
  mem : Memory
  freeUsed : Nat
  pending : List Instr
  deriving DecidableEq, Repr

/-- Why the model stops with a fault. -/
inductive Fault where
  /-- Raised by MEMORY_FAULT alone, when the words it says were already written name no word address of common memory
  (00_scope, Common memory). Safe: the part makes no such write, so the command cannot arrive. -/
  | noSuchAddress
  deriving DecidableEq, Repr

/-- Why the model refuses a command. -/
inductive Refusal where
  /-- Raised by an arm of exec that has no meaning yet. Safe: nothing is claimed of the command. No arm raises it. -/
  | notModelled (mnemonic : String)
  deriving DecidableEq, Repr

/-- What every command answers. -/
abbrev Result := Host.Outcome State Fault Refusal

/-! ### Power-up values -/

/-- The time base at power-up (R2). -/
def TimeBase.reset : TimeBase :=
  { tick := 0, second := 0, minute := 0, day := 0, dow := 0, clock := .unset, lastMark := none, candidate := none,
    lm := none, silence := 0, markErrors := 0, osc := 0 }

/-- A reader position at power-up (R23). -/
def Reader.reset : Reader :=
  { state := .absent, placed := none, failRun := 0, probeDue := 0, lastReport := none, indCounter := 0, outstanding := none,
    tamper := false, sensorFault := false, checkErrors := 0, noResponses := 0, frameErrors := 0, stales := 0 }

/-- A link at power-up: quiet, its round beginning at address 0 (R18, R23). -/
def Link.reset : Link := { nextAddress := 0, exchange := none }

/-- The attendance engine at power-up (R37, R53, R88, R112, R119, R40). -/
def Engine.reset : Engine :=
  { workers := none, shift := none, exceptions := none, handed := [], queues := Vector.replicate 8 [], sweep := .idle,
    sweepCursor := 0, sweepPending := false, install := .idle, takeTotals := none,
    lastException := { code := none, slot := 0, badge := 0 } }

/-- Cleared movement values (R131). -/
def Movement.cleared : Movement :=
  { substate := .search, ms := 0, peak := 0, peakTime := 0, valley := 0, valleyTime := 0, dipRun := 0, runMin := 0,
    runMinTime := 0, moved := false, written := false, earlyOpening := false, openAtStart := false }

/-- No latched flag. -/
def DoorFlags.clear : DoorFlags :=
  { overcurrent := false, loadOpen := false, coilHot := false, hitNotReached := false, noMove := false, forced := false,
    heldOpen := false }

/-- A door channel at power-up (R127). -/
def Door.reset : Door :=
  { state := .idle, cycle := .punch, served := none, movement := .cleared,
    measures := { peak := 0, valley := none, reaction := none, travel := none }, lastResistance := 0,
    overcurrentHold := false, openLoadHold := false, passRun := 0, freeEnd := none, freePending := false, contact := .closed,
    rawLevel := .closed, rawRun := 0, settling := false, forcedUnresolved := false, heldUnresolved := false, heldRaised := false,
    heldTimer := none, openTimer := none, overRun := 0, winCount := 0, winMillivolts := 0, winCurrent := 0,
    flags := .clear, equipped := false, params := none }

/-- A bell line at power-up (R161). -/
def Line.reset : Line :=
  { state := .idle, queue := [], minOn := 1, pulsesDone := 0, granted := false, cut := false, phaseEnds := 0,
    releaseAt := none }

/-- The bell sequencer at power-up (R172). -/
def Bells.reset : Bells :=
  { current := none, pendingTable := none, silenceEnd := none, lines := Vector.replicate 8 Line.reset,
    freeSends := Vector.replicate 8 none }

/-- The journal writer at power-up: every field 0, no journal held (R186). -/
def Journal.reset : Journal :=
  { region := none, writePos := 0, readPos := 0, used := 0, reserved := 0, nextSeq := 0, oldestSeq := 0, unreleased := 0,
    damaged := false, holdLevel := 0, threshold := 0, denialsUnrecorded := 0, noticesLost := 0, holdTimer := none,
    roomGiven := false }

/-- The order unit at power-up (R195). -/
def OrderUnit.reset : OrderUnit := { walking := false, current := 0, endMark := false, inHand := none }

/-- No latched cause. -/
def Latched.clear : Latched :=
  { ordersDone := false, orderRefused := false, startFailed := false, payException := false, doorFault := false,
    time := false, reader := false, releaseInvalid := false, journalDamaged := false, memoryFault := false }

/-- The control block at power-up (R187, R200). -/
def Control.reset : Control :=
  { runState := .stopped, runRequest := false, startResult := .none, startIndex := 0, statusBlock := none,
    gateTable := none, latched := .clear, enables := 0, alarm := false, stretch := none }

/-- The part right after power-up with its coil supply present, common memory blank (log entries 4 and 7). -/
def State.reset : State :=
  { time := .reset, readers := Vector.replicate 16 Reader.reset, links := Vector.replicate 4 Link.reset, engine := .reset,
    doors := Vector.replicate 8 Door.reset, supply := { state := .normal, lowRun := 0, recoveryRun := 0 },
    arbiter := { holder := none, requests := [] }, bells := .reset, journal := .reset, orders := .reset, control := .reset,
    mem := [], freeUsed := 0, pending := [] }

end Sys2Proof.Machine
end

