-- ==== Sys2Proof/Machine/Ops.lean ====
section
/-! DEFINITION. The shared operations: bit fields, common memory, the parts of the state, the cycles of plant time,
the latching of a cause. Everything here is total and is called by every family of commands. -/

namespace Sys2Proof.Machine

/-! ### Bit fields (R201) -/

/-- The `n` bits of a word from bit `lo` up, as a number (13, Record Formats). -/
def field (w : Word) (lo n : Nat) : Nat := w.toNat / 2 ^ lo % 2 ^ n

/-- Bit `i` of a word. -/
def flagAt (w : Word) (i : Nat) : Bool := field w i 1 == 1

/-- A word made of fields, each a lowest bit, a width and a value; every bit that names no field is 0 (R201). -/
def pack (fields : List (Nat × Nat × Nat)) : Word :=
  BitVec.ofNat 32 (fields.foldl (fun acc f => acc + f.2.2 % 2 ^ f.2.1 * 2 ^ f.1) 0)

/-- A flag as a one-bit value. -/
def bit (b : Bool) : Nat := if b then 1 else 0

/-- A value or the code of none (R201, None). -/
def orNone (code : Nat) (v : Option Nat) : Nat := v.getD code

/-- A field read back, with its code for none (R201, None). -/
def noneAt (code v : Nat) : Option Nat := if v = code then none else some v

/-- The largest value a 16-bit saturating count holds. -/
def countMax : Nat := 65535

/-- One more, stopping at 65535 (R3, R22, R30, R184). -/
def bump (n : Nat) : Nat := if n < countMax then n + 1 else n

/-! ### Common memory -/

/-- What an unlisted byte of common memory reads as (log entry 4). -/
def blankByte : Byte := 0

/-- The byte at an address. -/
def readByte : Memory → Nat → Byte
  | [], _ => blankByte
  | (a, b) :: m, x => if x = a then b else readByte m x

/-- Memory with one byte written, in its canonical form. -/
def writeByte : Memory → Nat → Byte → Memory
  | [], x, v => if v = blankByte then [] else [(x, v)]
  | (a, b) :: m, x, v =>
    if x < a then (if v = blankByte then (a, b) :: m else (x, v) :: (a, b) :: m)
    else if x = a then (if v = blankByte then m else (x, v) :: m)
    else (a, b) :: writeByte m x v

/-- The canonical form: addresses strictly rising, no byte listed that an unlisted address reads as. -/
def Memory.wf : Memory → Bool
  | [] => true
  | [(_, b)] => b != blankByte
  | (a, b) :: (a', b') :: m => decide (a < a') && b != blankByte && Memory.wf ((a', b') :: m)

/-- The word at a byte address, its bytes taken least significant first (log entry 4). -/
def readWord (m : Memory) (a : Nat) : Word :=
  readByte m (a + 3) ++ readByte m (a + 2) ++ readByte m (a + 1) ++ readByte m a

/-- Memory with one word written; the write is indivisible (00_scope, Common memory). -/
def writeWord (m : Memory) (a : Nat) (w : Word) : Memory :=
  writeByte (writeByte (writeByte (writeByte m a (w.extractLsb' 0 8)) (a + 1) (w.extractLsb' 8 8))
    (a + 2) (w.extractLsb' 16 8)) (a + 3) (w.extractLsb' 24 8)

/-- Words written at consecutive addresses, in ascending order. -/
def writeWords (m : Memory) (a : Nat) : List Word → Memory
  | [] => m
  | w :: ws => writeWords (writeWord m a w) (a + 4) ws

/-- Of two lists of words for consecutive addresses, the new words that differ from the old are written (R36, R198). -/
def writeChanged (m : Memory) (a : Nat) : List Word → List Word → Memory
  | o :: os, w :: ws => writeChanged (if o = w then m else writeWord m a w) (a + 4) os ws
  | _, _ => m

/-- The words at consecutive addresses. -/
def readWords (m : Memory) (a : Nat) : Nat → List Word
  | 0 => []
  | n + 1 => readWord m a :: readWords m (a + 4) n

/-- Two regions of words, each a base address and a count of words, share a word (R189 check 7). -/
def overlaps (a n b k : Nat) : Bool := decide (0 < n ∧ 0 < k ∧ a < b + 4 * k ∧ b < a + 4 * n)

/-- The first address after common memory (R189 check 6). -/
def memoryTop : Nat := 0x100000

/-- The `n` words from `a` lie wholly in common memory; no words lie anywhere (R160, R189). -/
def inMemory (a n : Nat) : Bool := decide (n = 0 ∨ a + 4 * n ≤ memoryTop)

/-! ### The parts of the state -/

/-- All gates, in ascending order. -/
def gates : List Gate := [0, 1, 2, 3, 4, 5, 6, 7]

/-- All bell lines, in ascending order. -/
def lineNos : List LineNo := [0, 1, 2, 3, 4, 5, 6, 7]

/-- All reader positions, in ascending order. -/
def positions : List (Fin 16) := [0, 1, 2, 3, 4, 5, 6, 7, 8, 9, 10, 11, 12, 13, 14, 15]

def State.withTime (s : State) (t : TimeBase) : State := { s with time := t }
def State.withEngine (s : State) (e : Engine) : State := { s with engine := e }
def State.withArbiter (s : State) (a : Arbiter) : State := { s with arbiter := a }
def State.withSupply (s : State) (p : Supply) : State := { s with supply := p }
def State.withBells (s : State) (b : Bells) : State := { s with bells := b }
def State.withJournal (s : State) (j : Journal) : State := { s with journal := j }
def State.withOrders (s : State) (o : OrderUnit) : State := { s with orders := o }
def State.withControl (s : State) (c : Control) : State := { s with control := c }
def State.withMem (s : State) (m : Memory) : State := { s with mem := m }

/-- The record of a reader position. -/
def State.reader (s : State) (p : Fin 16) : Reader := s.readers[p.val]
def State.setReader (s : State) (p : Fin 16) (r : Reader) : State := { s with readers := s.readers.set p.val r }

/-- A reader link. -/
def State.link (s : State) (k : LinkNo) : Link := s.links[k.val]
def State.setLink (s : State) (k : LinkNo) (l : Link) : State := { s with links := s.links.set k.val l }

/-- A door channel. -/
def State.door (s : State) (g : Gate) : Door := s.doors[g.val]
def State.setDoor (s : State) (g : Gate) (d : Door) : State := { s with doors := s.doors.set g.val d }

/-- The passage queue of a gate. -/
def State.queue (s : State) (g : Gate) : List Punch := s.engine.queues[g.val]
def State.setQueue (s : State) (g : Gate) (q : List Punch) : State :=
  s.withEngine { s.engine with queues := s.engine.queues.set g.val q }

/-- A bell line. -/
def State.line (s : State) (n : LineNo) : Line := s.bells.lines[n.val]
def State.setLine (s : State) (n : LineNo) (l : Line) : State :=
  s.withBells { s.bells with lines := s.bells.lines.set n.val l }

/-- The pending free send of a gate. -/
def State.freeSend (s : State) (g : Gate) : Option FreeSend := s.bells.freeSends[g.val]
def State.setFreeSend (s : State) (g : Gate) (f : Option FreeSend) : State :=
  s.withBells { s.bells with freeSends := s.bells.freeSends.set g.val f }

/-- An operation on each gate, in ascending order. -/
def eachGate (f : Gate → State → State) (s : State) : State := gates.foldl (fun s g => f g s) s

/-- An operation on each bell line, in ascending order. -/
def eachLine (f : LineNo → State → State) (s : State) : State := lineNos.foldl (fun s n => f n s) s

/-- An operation on each reader position, in ascending order. -/
def eachPosition (f : Fin 16 → State → State) (s : State) : State := positions.foldl (fun s p => f p s) s

/-- A word read from common memory. -/
def State.load (s : State) (a : Nat) : Word := readWord s.mem a

/-- A word written to common memory. -/
def State.store (s : State) (a : Nat) (w : Word) : State := s.withMem (writeWord s.mem a w)

/-- Words written in ascending order. -/
def State.storeAll (s : State) (a : Nat) (ws : List Word) : State := s.withMem (writeWords s.mem a ws)

/-- The words that changed written in ascending order (R36). -/
def State.storeChanged (s : State) (a : Nat) (old new : List Word) : State := s.withMem (writeChanged s.mem a old new)

/-- A free value: a word the spec does not state, a new one at each use (log entry 5). -/
def State.takeFree (s : State) : Word × State :=
  (Config.freeWord s.freeUsed, { s with freeUsed := s.freeUsed + 1 })

/-! ### Latched causes (R199) -/

/-- Latch causes: an update of the latched causes. -/
def State.latch (s : State) (f : Latched → Latched) : State :=
  s.withControl { s.control with latched := f s.control.latched }

def Latched.setOrdersDone (l : Latched) : Latched := { l with ordersDone := true }
def Latched.setOrderRefused (l : Latched) : Latched := { l with orderRefused := true }
def Latched.setStartFailed (l : Latched) : Latched := { l with startFailed := true }
def Latched.setPayException (l : Latched) : Latched := { l with payException := true }
def Latched.setDoorFault (l : Latched) : Latched := { l with doorFault := true }
def Latched.setTime (l : Latched) : Latched := { l with time := true }
def Latched.setReader (l : Latched) : Latched := { l with reader := true }
def Latched.setReleaseInvalid (l : Latched) : Latched := { l with releaseInvalid := true }
def Latched.setJournalDamaged (l : Latched) : Latched := { l with journalDamaged := true }
def Latched.setMemoryFault (l : Latched) : Latched := { l with memoryFault := true }

/-! ### Plant time and its cycles (R1) -/

/-- The day numbers roll after 65534 (00_scope, Stamps). -/
def dayCycle : Nat := 65535
/-- The cycle of absolute minutes (R1). -/
def minuteCycle : Nat := 94370400
/-- The cycle of absolute seconds (R92). -/
def secondCycle : Nat := 5662224000
/-- The cycle of local absolute times in 50 ms ticks. -/
def tickCycle : Nat := 113244480000

/-- The way forward from `a` to `b` on a cycle of `n`, from 0 to n − 1. -/
def ahead (n a b : Nat) : Nat := (b + (n - a % n)) % n

/-- The difference on a cycle of `n`, taken into the range −(n / 2) to the rest (R92; R7 for the place in the week). -/
def signedDiff (n a b : Nat) : Int :=
  let d := ahead n b a
  if d < (n + 1) / 2 then (d : Int) else (d : Int) - n

/-- "LM is behind a minute m": the difference m − LM lies from 1 to 47,185,200 on the cycle (R1). -/
def minuteBehind (lm m : Nat) : Bool :=
  let d := ahead minuteCycle lm m
  decide (1 ≤ d ∧ d ≤ minuteCycle / 2)

/-- "LM none is behind every minute" (R1). -/
def lmBehind (lm : Option Nat) (m : Nat) : Bool := match lm with
  | none => true
  | some l => minuteBehind l m

/-- A boundary's minute `m` is at or beyond an end minute `e`: e is behind m, or equal (R145, R162). -/
def minuteReached (e m : Nat) : Bool := decide (ahead minuteCycle e m ≤ minuteCycle / 2)

/-- A local absolute time in ticks has been reached: from 0 to half the cycle past it (R165). -/
def tickReached (now due : Nat) : Bool := decide (ahead tickCycle due now ≤ tickCycle / 2)

/-- The local absolute minute (R1). -/
def TimeBase.absMinute (t : TimeBase) : Nat := t.day * 1440 + t.minute

/-- The local absolute second (R1). -/
def TimeBase.absSecond (t : TimeBase) : Nat := t.day * 86400 + t.minute * 60 + t.second

/-- The local absolute time in ticks (R12). -/
def TimeBase.absTick (t : TimeBase) : Nat := t.absSecond * 20 + t.tick

/-- The tick stands at a half second of plant time (R161). -/
def TimeBase.atHalfSecond (t : TimeBase) : Bool := t.tick == 0 || t.tick == 10

/-- The current stamp: the local time in whole seconds, undefined in UNSET (R13). -/
def TimeBase.stamp (t : TimeBase) : Option Stamp :=
  if t.clock = .unset then none else some { day := t.day, second := t.minute * 60 + t.second }

/-- The absolute second of a stamp (00_scope, Absolute times). -/
def Stamp.abs (x : Stamp) : Nat := x.day * 86400 + x.second

/-- The day of week of a day number, from the relation the time base holds; unknown in UNSET (R62). -/
def TimeBase.dowOf (t : TimeBase) (d : Nat) : Option Nat :=
  if t.clock = .unset then none
  else some (((t.dow : Int) - signedDiff dayCycle t.day d) % 7).toNat

/-- The day before (R62). -/
def dayBefore (d : Nat) : Nat := if d = 0 then 65534 else d - 1

/-- The stamp of a report: the arrival less two ticks for each unit of age, in whole seconds (R12). -/
def TimeBase.reportStamp (t : TimeBase) (age : Nat) : Option Stamp :=
  if t.clock = .unset then none
  else
    let sec := ((t.absTick + tickCycle - 2 * age) % tickCycle) / 20
    some { day := sec / 86400, second := sec % 86400 }

/-- A timer started at oscillator count `start` has run `ticks` units of 50 ms (log entry 3). -/
def TimeBase.elapsed (t : TimeBase) (start ticks : Nat) : Bool := decide (start + ticks ≤ t.osc)

end Sys2Proof.Machine
end

