-- ==== Sys2Proof/Machine/Operands.lean ====
section
/-! DEFINITION. The formats of 13 (Record Formats): worker records, shift table entries, gate and bell entries,
exception slots, journal records, order codes. Each is read from words and written to words by the tables of that file. -/

namespace Sys2Proof.Machine

/-! ### Stamps and none (R201) -/

/-- The 16-bit day field of a stamp; 65535 for the undefined stamp. -/
def stampDay (x : Option Stamp) : Nat := match x with
  | none => 65535
  | some x => x.day

/-- The 17-bit second field of a stamp; 0 for the undefined stamp. -/
def stampSecond (x : Option Stamp) : Nat := match x with
  | none => 0
  | some x => x.second

/-- A stamp from its two fields. -/
def stampOf (day second : Nat) : Option Stamp := if day = 65535 then none else some { day := day, second := second }

/-! ### Worker record (13.2; R34, R35) -/

/-- Presence (R35). The fourth code names no presence; only a direct host write leaves it (log entry 6). -/
inductive Presence where
  | outside
  | inside
  | unknown
  | reserved
  deriving DecidableEq, Repr

def Presence.code : Presence → Nat
  | .outside => 0
  | .inside => 1
  | .unknown => 2
  | .reserved => 3

def Presence.ofCode (c : Nat) : Presence :=
  if c = 0 then .outside else if c = 1 then .inside else if c = 2 then .unknown else .reserved

/-- An open-in (R35): its stamp and gate, the captured shift start (day and minute of day) and length, its flags. -/
structure OpenIn where
  stamp : Option Stamp
  gate : Nat
  start : Option (Nat × Nat)
  length : Nat
  late : Bool
  offShift : Bool
  deriving DecidableEq, Repr

/-- A worker record. `openIn` is none in open-in state NONE, when the other open-in fields have no meaning (R35). -/
structure Worker where
  badge : Nat
  number : Nat
  group : Nat
  rule : Nat
  mask : Nat
  suspended : Bool
  exempt : Bool
  early : Bool
  windowEnforced : Bool
  noPay : Bool
  rate : Nat
  presence : Presence
  inFlight : Option Nat
  openIn : Option OpenIn
  rd : Nat
  rdDay : Option Nat
  lastReader : Option Nat
  lastStamp : Option Stamp
  regular : Nat
  overtime : Nat
  night : Nat
  amount : Nat
  pairs : Nat
  saturated : Bool
  pendingCount : Nat
  deriving DecidableEq, Repr

/-- The words of a worker record, in table steps of 16 words (R37). -/
def workerWords : Nat := 16

/-- The five flags of a worker, SUSPENDED lowest (13.2 word 2, log entry 52). -/
def flagBits (a b c d e : Bool) : Nat := bit a + 2 * bit b + 4 * bit c + 8 * bit d + 16 * bit e

/-- Words 0–3, the static side. -/
def Worker.staticWords (w : Worker) : List Word :=
  [ BitVec.ofNat 32 w.badge,
    BitVec.ofNat 32 w.number,
    pack [(0, 5, w.group), (5, 4, w.rule), (9, 8, w.mask),
      (17, 5, flagBits w.suspended w.exempt w.early w.windowEnforced w.noPay)],
    pack [(0, 20, w.rate)] ]

/-- The open-in gate, or 0 for NONE (R35). -/
def Worker.openGate (w : Worker) : Nat := match w.openIn with
  | none => 0
  | some o => o.gate

def Worker.openStamp (w : Worker) : Option Stamp := w.openIn.bind OpenIn.stamp
def Worker.openStart (w : Worker) : Option (Nat × Nat) := w.openIn.bind OpenIn.start
def Worker.openLength (w : Worker) : Nat := match w.openIn with
  | none => 0
  | some o => o.length
def Worker.openLate (w : Worker) : Bool := match w.openIn with
  | none => false
  | some o => o.late
def Worker.openOff (w : Worker) : Bool := match w.openIn with
  | none => false
  | some o => o.offShift

/-- Words 4–12, the live side. -/
def Worker.liveWords (w : Worker) : List Word :=
  [ pack [(0, 2, w.presence.code), (2, 4, orNone 15 w.inFlight), (6, 1, bit w.openIn.isSome), (7, 1, bit w.openLate),
      (8, 1, bit w.openOff), (9, 3, w.openGate), (12, 10, w.openLength), (22, 6, w.pendingCount), (28, 1, bit w.saturated)],
    pack [(16, 16, stampDay w.openStamp), (0, 16, orNone 65535 (w.openStart.map Prod.fst))],
    pack [(0, 17, stampSecond w.openStamp), (17, 11, orNone 2047 (w.openStart.map Prod.snd))],
    pack [(0, 10, w.rd), (10, 5, orNone 31 w.lastReader), (16, 16, orNone 65535 w.rdDay)],
    pack [(0, 17, stampSecond w.lastStamp)],
    pack [(0, 16, stampDay w.lastStamp), (16, 16, w.regular)],
    pack [(0, 16, w.overtime), (16, 16, w.night)],
    BitVec.ofNat 32 w.amount,
    pack [(0, 16, w.pairs)] ]

/-- Words 0–12 of a record. -/
def Worker.words (w : Worker) : List Word := w.staticWords ++ w.liveWords

/-- The worker record at an address. Any in-flight code but 15 is a punch in flight, the codes 8 to 14 too (log entry 40). An
open-in shift start is none by its day field alone (log entry 66). -/
def Worker.read (m : Memory) (a : Nat) : Worker :=
  let w2 := readWord m (a + 8)
  let w4 := readWord m (a + 16)
  let w5 := readWord m (a + 20)
  let w6 := readWord m (a + 24)
  let w7 := readWord m (a + 28)
  let w9 := readWord m (a + 36)
  let w10 := readWord m (a + 40)
  { badge := (readWord m a).toNat
    number := (readWord m (a + 4)).toNat
    group := field w2 0 5
    rule := field w2 5 4
    mask := field w2 9 8
    suspended := flagAt w2 17
    exempt := flagAt w2 18
    early := flagAt w2 19
    windowEnforced := flagAt w2 20
    noPay := flagAt w2 21
    rate := field (readWord m (a + 12)) 0 20
    presence := Presence.ofCode (field w4 0 2)
    inFlight := noneAt 15 (field w4 2 4)
    openIn :=
      if flagAt w4 6 then
        some { stamp := stampOf (field w5 16 16) (field w6 0 17), gate := field w4 9 3,
               start := if field w5 0 16 = 65535 then none else some (field w5 0 16, field w6 17 11),
               length := field w4 12 10, late := flagAt w4 7, offShift := flagAt w4 8 }
      else none
    rd := field w7 0 10
    rdDay := noneAt 65535 (field w7 16 16)
    lastReader := noneAt 31 (field w7 10 5)
    lastStamp := stampOf (field w9 0 16) (field (readWord m (a + 32)) 0 17)
    regular := field w9 16 16
    overtime := field w10 0 16
    night := field w10 16 16
    amount := (readWord m (a + 44)).toNat
    pairs := field (readWord m (a + 48)) 0 16
    saturated := flagAt w4 28
    pendingCount := field w4 22 6 }

/-- The fresh live fields (R35). -/
def Worker.fresh (w : Worker) : Worker :=
  { w with presence := .unknown, inFlight := none, openIn := none, rd := 0, rdDay := none, lastReader := none,
           lastStamp := none, regular := 0, overtime := 0, night := 0, amount := 0, pairs := 0, saturated := false,
           pendingCount := 0 }

/-- The address of the record a punch or a walk names (R39). -/
def WorkerRef.address (r : WorkerRef) : Nat := r.base + 4 * workerWords * r.index

/-- The worker record so named. -/
def State.worker (s : State) (r : WorkerRef) : Worker := Worker.read s.mem r.address

/-- The bits of words 0–12 that name a field; the others are ignored on reading (13.2, R201). -/
def workerMasks : List Word :=
  [0xFFFFFFFF, 0xFFFFFFFF, 0x003FFFFF, 0x000FFFFF, 0x1FFFFFFF, 0xFFFFFFFF, 0x0FFFFFFF, 0xFFFF7FFF, 0x0001FFFF, 0xFFFFFFFF,
    0xFFFFFFFF, 0xFFFFFFFF, 0x0000FFFF]

/-- Words 0–12 of the record at an address, their unused bits left out. -/
def namedWords (m : Memory) (a : Nat) : List Word := List.zipWith (· &&& ·) (readWords m a 13) workerMasks

/-- An event that makes record `o` into `w` changes word `i`. A new open-in changes words 4–6 and a new last accepted stamp
words 8 and 9, whatever the fields without meaning held (R35). -/
def Worker.changes (o w : Worker) (i : Nat) : Bool :=
  o.words.getD i 0 != w.words.getD i 0 || (decide (4 ≤ i ∧ i ≤ 6) && o.openIn != w.openIn) ||
    (decide (8 ≤ i ∧ i ≤ 9) && o.lastStamp != w.lastStamp)

/-- What the words 0–12 at an address hold before a write of `w`: the words that the event leaves count as written. -/
def Worker.before (w : Worker) (m : Memory) (a : Nat) : List Word :=
  let o := Worker.read m a
  let held := namedWords m a
  (List.range 13).map fun i => if o.changes w i then held.getD i 0 else w.words.getD i 0

/-- The words of a record whose contents an event changes, written in ascending word order; every other word stands as the
host or the part left it (R36). -/
def State.setWorker (s : State) (r : WorkerRef) (w : Worker) : State :=
  s.storeChanged r.address (w.before s.mem r.address) w.words

/-- The same of an event that captures the open-in or ends it: words 4–6, which hold the open-in, are written whole, so that the
fields that R35 gives for NONE stand there whatever they held (R83, R84). -/
def State.setWorkerOpenIn (s : State) (r : WorkerRef) (w : Worker) : State :=
  (s.setWorker r w).storeAll (r.address + 16) (w.liveWords.take 3)

/-! ### Shift table (13.3; R53, R54, R56) -/

/-- A day entry (R54). -/
structure DayEntry where
  start : Nat
  length : Nat
  early : Nat
  late : Nat
  graceIn : Nat
  graceOut : Nat
  autoClose : Nat
  deriving DecidableEq, Repr

/-- Day entry `i` of the shift table at `base`. -/
def DayEntry.read (m : Memory) (base i : Nat) : DayEntry :=
  let w0 := readWord m (base + 8 * i)
  let w1 := readWord m (base + 8 * i + 4)
  { start := field w0 0 11, length := field w0 11 10, early := field w0 21 8, late := field w1 0 8, graceIn := field w1 8 4,
    graceOut := field w1 12 4, autoClose := field w1 16 9 }

/-- The range check of a day entry (R57). -/
def DayEntry.valid (e : DayEntry) : Bool :=
  decide (e.start ≤ 1439 ∧ e.length ≤ 960 ∧ e.early ≤ 240 ∧ e.late ≤ 240 ∧ e.graceIn ≤ 15 ∧ e.graceOut ≤ 15 ∧ e.autoClose ≤ 480)

/-- A pay rule (R56). `mode` is the code of the time rounding, `highBits` the bits 31–23 of word 0. -/
structure PayRule where
  q : Nat
  mode : Nat
  halfUp : Bool
  factor : Nat
  offShiftAsOt : Bool
  quiet : Bool
  enMissingIn : Bool
  enMissingOut : Bool
  enSpanLimit : Bool
  enTotalOverflow : Bool
  enUnsetTime : Bool
  highBits : Nat
  breakAt : Nat
  breakLen : Nat
  cap : Nat
  nightStart : Nat
  nightEnd : Nat
  premium : Nat
  deriving DecidableEq, Repr

/-- Pay rule `i` of the shift table at `base`; the enables of word 0 lowest bit first (log entry 52). -/
def PayRule.read (m : Memory) (base i : Nat) : PayRule :=
  let a := base + 4 * (448 + 4 * i)
  let w0 := readWord m a
  let w1 := readWord m (a + 4)
  let w2 := readWord m (a + 8)
  { q := field w0 0 4, mode := field w0 4 2, halfUp := flagAt w0 6, factor := field w0 7 6, offShiftAsOt := flagAt w0 16,
    quiet := flagAt w0 17, enMissingIn := flagAt w0 18, enMissingOut := flagAt w0 19, enSpanLimit := flagAt w0 20,
    enTotalOverflow := flagAt w0 21, enUnsetTime := flagAt w0 22, highBits := field w0 23 9, breakAt := field w1 0 10,
    breakLen := field w1 16 7, cap := field w2 0 10, nightStart := field w2 10 11, nightEnd := field w2 21 11,
    premium := field (readWord m (a + 12)) 0 20 }

/-- The validity of a pay rule (R56). -/
def PayRule.valid (r : PayRule) : Bool :=
  decide ((r.q = 1 ∨ r.q = 5 ∨ r.q = 6 ∨ r.q = 10 ∨ r.q = 15) ∧ r.mode ≤ 2 ∧ 8 ≤ r.factor ∧ r.factor ≤ 32 ∧ r.breakAt ≤ 960
    ∧ r.breakLen ≤ 120 ∧ (r.breakAt = 0 ∨ r.breakLen ≤ r.breakAt) ∧ r.cap ≤ 960 ∧ r.nightStart ≤ 1439 ∧ r.nightEnd ≤ 1439
    ∧ r.highBits = 0)

/-- The exception enable of a class (R56). -/
def PayRule.enables (r : PayRule) : ExcClass → Bool
  | .missingIn => r.enMissingIn
  | .missingOut => r.enMissingOut
  | .spanLimit => r.enSpanLimit
  | .totalOverflow => r.enTotalOverflow
  | .unsetTime => r.enUnsetTime

/-- The words of a shift table (R53). -/
def shiftTableWords : Nat := 512

/-- The check of a shift table, in index order: the index of the first entry that fails (R57). -/
def shiftTableFault (m : Memory) (base : Nat) : Option Nat :=
  match (List.range 224).find? fun i => !(DayEntry.read m base i).valid with
  | some i => some i
  | none => ((List.range 16).find? fun i => !(PayRule.read m base i).valid).map (224 + ·)

/-! ### Gate table (13.4; R128, R149) -/

/-- A reader field of a gate entry: an address and a link of three bits each, and the mark none. -/
structure ReaderField where
  address : Nat
  link : Nat
  absent : Bool
  deriving DecidableEq, Repr

/-- A gate entry as its words hold it. -/
structure GateEntry where
  entry : ReaderField
  exit : ReaderField
  oneReader : Bool
  repeatWindow : Nat
  iStart : Nat
  iDip : Nat
  deglitch : Nat
  iChk : Nat
  hitMax : Nat
  endHitAuto : Bool
  policy : Nat
  mode : Nat
  freeAllowed : Bool
  holdDuty : Nat
  openTime : Nat
  heldLimit : Nat
  rHot : Nat
  deriving DecidableEq, Repr

/-- A reader field from bit `lo` of word 0. -/
def ReaderField.ofWord (w : Word) (lo : Nat) : ReaderField :=
  { address := field w lo 3, link := field w (lo + 3) 3, absent := flagAt w (lo + 6) }

/-- A gate entry from its five words. -/
def GateEntry.ofWords (w0 w1 w2 w3 w4 : Word) : GateEntry :=
  { entry := .ofWord w0 0, exit := .ofWord w0 8, oneReader := flagAt w0 16, repeatWindow := field w0 24 8,
    iStart := field w1 0 12, iDip := field w1 12 12, deglitch := field w1 24 4, iChk := field w2 0 12, hitMax := field w2 12 10,
    endHitAuto := flagAt w2 22, policy := field w2 23 2, mode := field w2 25 2, freeAllowed := flagAt w2 27,
    holdDuty := field w3 0 7, openTime := field w3 7 6, heldLimit := field w3 13 10, rHot := field w4 0 16 }

/-- The five words of a gate entry. -/
def GateEntry.words (e : GateEntry) : List Word :=
  [ pack [(0, 3, e.entry.address), (3, 3, e.entry.link), (6, 1, bit e.entry.absent), (8, 3, e.exit.address), (11, 3, e.exit.link),
      (14, 1, bit e.exit.absent), (16, 1, bit e.oneReader), (24, 8, e.repeatWindow)],
    pack [(0, 12, e.iStart), (12, 12, e.iDip), (24, 4, e.deglitch)],
    pack [(0, 12, e.iChk), (12, 10, e.hitMax), (22, 1, bit e.endHitAuto), (23, 2, e.policy), (25, 2, e.mode),
      (27, 1, bit e.freeAllowed)],
    pack [(0, 7, e.holdDuty), (7, 6, e.openTime), (13, 10, e.heldLimit)],
    pack [(0, 16, e.rHot)] ]

/-- Gate entry `n` of the gate table at `base`. -/
def GateEntry.read (m : Memory) (base n : Nat) : GateEntry :=
  let a := base + 20 * n
  .ofWords (readWord m a) (readWord m (a + 4)) (readWord m (a + 8)) (readWord m (a + 12)) (readWord m (a + 16))

/-- The line entry of bell line `n`: its minimum on, bits 4–0. -/
def lineMinOn (m : Memory) (base n : Nat) : Nat := field (readWord m (base + 160 + 4 * n)) 0 5

/-- The words of the gate table. -/
def gateTableWords : Nat := 48

/-- A value taken to the nearer end of its range (R128). -/
def clamp (lo hi v : Nat) : Nat := max lo (min hi v)

/-- The reader position a field names: link × 4 + address, or none (R201). -/
def ReaderField.position (f : ReaderField) : Option Nat := if f.absent then none else some (f.link * 4 + f.address)

/-- A field names a link or an address above 3 (R149, R190). -/
def ReaderField.outOfRange (f : ReaderField) : Bool := !f.absent && (decide (3 < f.address) || decide (3 < f.link))

/-- A channel is equipped when its entry names an entry or an exit reader (R127). -/
def GateEntry.equipped (e : GateEntry) : Bool := !e.entry.absent || !e.exit.absent

/-- The entry with every value in its range, as SET GATE writes it (R128, R149). -/
def GateEntry.clamped (e : GateEntry) : GateEntry :=
  { e with repeatWindow := clamp 0 120 e.repeatWindow, deglitch := clamp 1 15 e.deglitch, hitMax := clamp 10 500 e.hitMax,
           policy := if e.policy ≤ 1 then e.policy else 0, mode := if e.mode ≤ 1 then e.mode else 0,
           holdDuty := clamp 10 100 e.holdDuty, openTime := clamp 1 60 e.openTime, heldLimit := clamp 5 600 e.heldLimit }

/-- How many values of an entry the clamping changed (R149, log entry 20). -/
def GateEntry.clampCount (e : GateEntry) : Nat :=
  let c := e.clamped
  [e.repeatWindow != c.repeatWindow, e.deglitch != c.deglitch, e.hitMax != c.hitMax, e.policy != c.policy, e.mode != c.mode,
    e.holdDuty != c.holdDuty, e.openTime != c.openTime, e.heldLimit != c.heldLimit].count true

/-- The drive parameters a channel copies from its entry, clamped (R128). -/
def GateEntry.params (e : GateEntry) : DoorParams :=
  let c := e.clamped
  { iStart := c.iStart, iDip := c.iDip, iChk := c.iChk, deglitch := c.deglitch, hitMax := c.hitMax, endHitAuto := c.endHitAuto,
    policy := if c.policy = 1 then .abort else .proceed, holdDuty := c.holdDuty, openTime := c.openTime,
    mode := if c.mode = 1 then .timed else .contact, heldLimit := c.heldLimit, rHot := c.rHot, freeAllowed := c.freeAllowed }

/-- The positions that a gate entry names. -/
def GateEntry.positions (e : GateEntry) : List Nat := e.entry.position.toList ++ e.exit.position.toList

/-- The check of gate `n` at start (R190). -/
def gateFails (m : Memory) (base n : Nat) : Bool :=
  let e := GateEntry.read m base n
  let lower := (List.range n).flatMap fun k => (GateEntry.read m base k).positions
  e.entry.outOfRange || e.exit.outOfRange || (e.entry.position.isSome && e.entry.position == e.exit.position) ||
    e.positions.any fun p => lower.contains p

/-! ### Bell table (13.5; R159) -/

/-- A bell entry (R159). -/
structure BellEntry where
  minute : Nat
  dayMask : Nat
  lineMask : Nat
  pulses : Nat
  onTime : Nat
  gap : Nat
  startDelay : Nat
  freeMask : Nat
  freeWindow : Nat
  deriving DecidableEq, Repr

/-- Entry `i` of the bell table at `base`. -/
def BellEntry.read (m : Memory) (base i : Nat) : BellEntry :=
  let a := base + 16 * i
  let w0 := readWord m a
  let w1 := readWord m (a + 4)
  let w2 := readWord m (a + 8)
  { minute := field w0 0 11, dayMask := field w0 16 8, lineMask := field w0 24 8, pulses := field w1 0 4, onTime := field w1 8 8,
    gap := field w1 16 8, startDelay := field w1 24 6, freeMask := field w2 0 8, freeWindow := field w2 8 8 }

/-- The validity of a bell entry (R159). -/
def BellEntry.valid (e : BellEntry) : Bool :=
  decide (e.minute ≤ 1439 ∧ e.dayMask ≤ 127 ∧ 1 ≤ e.onTime ∧ 1 ≤ e.gap ∧ e.startDelay ≤ 59 ∧ e.freeWindow ≤ 60)

/-- The words of a bell entry. -/
def bellEntryWords : Nat := 4

/-- The first entry of a bell table that is invalid, or whose minute is below its predecessor's (R159). -/
def bellTableFault (m : Memory) (base count : Nat) : Option Nat :=
  (List.range count).find? fun i =>
    !(BellEntry.read m base i).valid ||
      (decide (0 < i) && decide ((BellEntry.read m base i).minute < (BellEntry.read m base (i - 1)).minute))

/-- Bit `n` of a mask is set. -/
def maskBit (mask n : Nat) : Bool := mask / 2 ^ n % 2 == 1

/-! ### Exception slots (13.6; R112) -/

/-- The words of an exception slot. -/
def slotWords : Nat := 12

def ExcClass.code : ExcClass → Nat
  | .missingIn => 1
  | .missingOut => 2
  | .spanLimit => 3
  | .unsetTime => 4
  | .totalOverflow => 5

/-- The contents of a PENDING slot (R112). -/
structure SlotFill where
  code : ExcClass
  index : Nat
  badge : Nat
  inStamp : Option Stamp
  outStamp : Option Stamp
  regular : Nat
  overtime : Nat
  night : Nat
  amount : Nat
  shiftDay : Option Nat
  deriving DecidableEq, Repr

/-- Words 1–11 of a slot; word 11 names no field (13.6, R201). -/
def SlotFill.words (x : SlotFill) : List Word :=
  [ BitVec.ofNat 32 x.code.code, BitVec.ofNat 32 x.index, BitVec.ofNat 32 x.badge,
    pack [(0, 16, stampDay x.inStamp), (16, 16, stampDay x.outStamp)],
    pack [(0, 17, stampSecond x.inStamp)], pack [(0, 17, stampSecond x.outStamp)],
    pack [(0, 16, x.regular), (16, 16, x.overtime)], pack [(0, 16, x.night)], BitVec.ofNat 32 x.amount,
    pack [(0, 16, orNone 65535 x.shiftDay)], 0 ]

/-- The address of slot `i`. -/
def slotAddress (t : Table) (i : Nat) : Nat := t.base + 4 * slotWords * i

/-- The state word of slot `i`: 0 FREE, 1 PENDING. -/
def slotState (m : Memory) (t : Table) (i : Nat) : Nat := (readWord m (slotAddress t i)).toNat

/-- The badge a slot names. -/
def slotBadge (m : Memory) (t : Table) (i : Nat) : Nat := (readWord m (slotAddress t i + 12)).toNat

/-- The FREE slot with the lowest index (R112). A state word above 1 is not FREE (log entry 45). -/
def lowestFree (m : Memory) (t : Table) : Option Nat := (List.range t.count).find? fun i => slotState m t i == 0

/-! ### Journal records (13.7) -/

/-- The kinds of record (R177). -/
inductive RecordKind where
  | punchOpen
  | punchClose
  | punchUnpaired
  | notPassed
  | voided
  | denial
  | removalClose
  | departureTotals
  | doorNotice
  | timeNotice
  | bellNotice
  | readerNotice
  deriving DecidableEq, Repr

def RecordKind.code : RecordKind → Nat
  | .punchOpen => 1
  | .punchClose => 2
  | .punchUnpaired => 3
  | .notPassed => 4
  | .voided => 5
  | .denial => 6
  | .removalClose => 7
  | .departureTotals => 8
  | .doorNotice => 9
  | .timeNotice => 10
  | .bellNotice => 11
  | .readerNotice => 12

/-- The long kinds (R177). -/
def RecordKind.long : RecordKind → Bool
  | .punchClose | .departureTotals => true
  | .punchOpen | .punchUnpaired | .notPassed | .voided | .denial | .removalClose | .doorNotice | .timeNotice | .bellNotice
  | .readerNotice => false

/-- The length in words that a kind code names: 8 for the long kinds, 4 for the others, none for no kind (R177). -/
def kindLength (code : Nat) : Option Nat :=
  if code = 2 ∨ code = 8 then some 8 else if 1 ≤ code ∧ code ≤ 12 then some 4 else none

/-- A record to be written: its kind, its two header flags, and its words after the header word. -/
structure JRecord where
  kind : RecordKind
  entryInvalid : Bool
  ruleInvalid : Bool
  body : List Word
  deriving DecidableEq, Repr

/-- A record without header flags. -/
def JRecord.plain (kind : RecordKind) (body : List Word) : JRecord :=
  { kind := kind, entryInvalid := false, ruleInvalid := false, body := body }

/-- The words a record takes. -/
def JRecord.size (r : JRecord) : Nat := if r.kind.long then 8 else 4

/-- The header word of a record with its sequence number (13.7). -/
def JRecord.header (r : JRecord) (seq : Nat) : Word :=
  pack [(28, 4, r.kind.code), (27, 1, bit r.kind.long), (26, 1, bit r.entryInvalid), (25, 1, bit r.ruleInvalid), (0, 25, seq)]

/-- The header word of a WRAP filler (13.7, R201). -/
def wrapHeader : Word := pack [(28, 4, 15)]

/-- The flags of PUNCH_CLOSE word 7, in their order from bit 0 (13.7). -/
structure RecFlags where
  breakTaken : Bool := false
  zeroSpan : Bool := false
  noPay : Bool := false
  unsetTime : Bool := false
  late : Bool := false
  offShift : Bool := false
  auto : Bool := false
  host : Bool := false
  clamped : Bool := false
  exception : Bool := false
  exceptionLost : Bool := false
  saturated : Bool := false
  passbackSoft : Bool := false
  noMove : Bool := false
  free : Bool := false
  deriving DecidableEq, Repr

def RecFlags.code (f : RecFlags) : Nat :=
  bit f.breakTaken + 2 * bit f.zeroSpan + 4 * bit f.noPay + 8 * bit f.unsetTime + 16 * bit f.late + 32 * bit f.offShift +
    64 * bit f.auto + 128 * bit f.host + 256 * bit f.clamped + 512 * bit f.exception + 1024 * bit f.exceptionLost +
    2048 * bit f.saturated + 4096 * bit f.passbackSoft + 8192 * bit f.noMove + 16384 * bit f.free

def Direction.code : Direction → Nat
  | .inward => 0
  | .outward => 1

def VoidCause.code : VoidCause → Nat
  | .noMove => 1
  | .overcurrent => 2
  | .loadOpen => 3
  | .supply => 4

/-- PUNCH_CLOSE (R107). `slotField` is the exception slot field. -/
def punchClose (w : Worker) (tin tout : Option Stamp) (mreg mot mn amount gate reader slotField : Nat) (f : RecFlags)
    (entryInvalid ruleInvalid : Bool) : JRecord :=
  { kind := .punchClose, entryInvalid := entryInvalid, ruleInvalid := ruleInvalid,
    body := [ BitVec.ofNat 32 w.badge, BitVec.ofNat 32 w.number, pack [(0, 16, stampDay tin), (16, 16, stampDay tout)],
      pack [(0, 17, stampSecond tin), (17, 10, mreg), (27, 3, gate)],
      pack [(0, 17, stampSecond tout), (17, 10, mot), (27, 5, reader)],
      pack [(0, 27, amount), (27, 5, slotField)], pack [(0, 15, f.code), (17, 10, mn)] ] }

/-- PUNCH_OPEN (R83). `prevDay` says the shift start lies on the day before the in stamp's day. The four flags of word 2 stand
lowest bit first, LATE at 28 (log entry 52). -/
def punchOpen (badge : Nat) (tin : Option Stamp) (start : Option (Nat × Nat)) (late offShift noMove free : Bool)
    (gate reader : Nat) (slot : Option Nat) : JRecord :=
  let prevDay := match start with
    | none => false
    | some x => x.1 != stampDay tin
  .plain .punchOpen
    [ BitVec.ofNat 32 badge,
      pack [(0, 16, stampDay tin), (16, 11, orNone 2047 (start.map Prod.snd)), (27, 1, bit prevDay), (28, 1, bit late),
        (29, 1, bit offShift), (30, 1, bit noMove), (31, 1, bit free)],
      pack [(0, 17, stampSecond tin), (17, 3, gate), (20, 5, reader), (25, 5, orNone 31 slot), (30, 1, bit slot.isSome)] ]

/-- PUNCH_UNPAIRED (R114, R115, R122). `isIn` is the stamp kind: set for an in stamp. `entryInvalid` is set by a close that read a
failing day entry (R61, R65). -/
def punchUnpaired (badge : Nat) (stamp : Option Stamp) (isIn : Bool) (gate reader : Nat) (slot : Option Nat) (f : RecFlags)
    (entryInvalid : Bool := false) : JRecord :=
  { kind := .punchUnpaired, entryInvalid := entryInvalid, ruleInvalid := false,
    body := [ BitVec.ofNat 32 badge,
      pack [(0, 16, stampDay stamp), (16, 3, gate), (19, 5, reader), (24, 5, orNone 31 slot), (29, 1, bit isIn)],
      pack [(0, 17, stampSecond stamp), (17, 15, f.code)] ] }

/-- NOT_PASSED, or VOIDED with a cause (R85, R86). -/
def punchEnded (badge : Nat) (p : Punch) (gate : Nat) (cause : Option VoidCause) : JRecord :=
  .plain (if cause.isSome then .voided else .notPassed)
    [ BitVec.ofNat 32 badge,
      pack [(0, 16, stampDay p.stamp), (16, 3, gate), (19, 5, p.position.val), (24, 1, p.direction.code), (25, 1, bit p.passbackSoft),
        (26, 1, bit p.noMove), (27, 3, orNone 0 (cause.map VoidCause.code))],
      pack [(0, 17, stampSecond p.stamp)] ]

/-- The reasons of a denial (R67). -/
inductive DenialReason where
  | unknownBadge
  | suspended
  | gateNotPermitted
  | doorFault
  | passback
  | offWindow
  deriving DecidableEq, Repr

/-- The code of a reason, which is also the denial tone code (R78, 13.7). -/
def DenialReason.code : DenialReason → Nat
  | .unknownBadge => 1
  | .suspended => 2
  | .gateNotPermitted => 3
  | .doorFault => 4
  | .passback => 5
  | .offWindow => 6

/-- DENIAL (R79). -/
def denialRecord (p : Presentation) (d : Direction) (reason : DenialReason) : JRecord :=
  .plain .denial
    [ BitVec.ofNat 32 p.badge,
      pack [(0, 16, stampDay p.stamp), (16, 3, p.gate.val), (19, 5, p.position.val), (24, 1, d.code), (25, 3, reason.code)],
      pack [(0, 17, stampSecond p.stamp)] ]

/-- REMOVAL_CLOSE (R45). -/
def removalClose (badge : Nat) (tin : Option Stamp) : JRecord :=
  .plain .removalClose [BitVec.ofNat 32 badge, pack [(0, 16, stampDay tin)], pack [(0, 17, stampSecond tin)]]

/-- DEPARTURE_TOTALS (R45). -/
def departureTotals (w : Worker) : JRecord :=
  .plain .departureTotals
    [ BitVec.ofNat 32 w.badge, BitVec.ofNat 32 w.number, pack [(0, 16, w.regular), (16, 16, w.overtime)],
      pack [(0, 16, w.night), (16, 16, w.pairs)], BitVec.ofNat 32 w.amount,
      pack [(0, 1, bit w.saturated), (8, 6, w.pendingCount)], 0 ]

/-- The causes of a DOOR_NOTICE (R148). -/
inductive DoorCause where
  | noMove
  | coilHot
  | heldOpen
  | forced
  | overcurrent
  | loadOpen
  deriving DecidableEq, Repr

def DoorCause.code : DoorCause → Nat
  | .noMove => 1
  | .coilHot => 2
  | .heldOpen => 3
  | .forced => 4
  | .overcurrent => 5
  | .loadOpen => 6

/-- DOOR_NOTICE (R148). -/
def doorNotice (now : Option Stamp) (g : Gate) (c : DoorCause) (notReached : Bool) (value : Nat) : JRecord :=
  .plain .doorNotice
    [ pack [(0, 17, stampSecond now), (17, 3, g.val), (20, 3, c.code), (23, 1, bit notReached)], pack [(0, 16, stampDay now)],
      BitVec.ofNat 32 value ]

/-- The causes of a TIME_NOTICE but FREE_RUN (R15). -/
inductive TimeCause where
  | set
  | step
  | resync
  | skip
  deriving DecidableEq, Repr

def TimeCause.code : TimeCause → Nat
  | .set => 1
  | .step => 2
  | .resync => 3
  | .skip => 4

/-- TIME_NOTICE of every cause but FREE_RUN (R15, 13.7). An application has at most one of its two counts above 0. With both
0 the spec states no count kind, and none for SET, which carries no count: the model writes kind 0 and count 0 (DESIGN CHOICE, log
entry 73). -/
def timeNotice (c : TimeCause) (old : Option Nat) (new : Nat) (offset : Int) (skipped held : Nat) : JRecord :=
  .plain .timeNotice
    [ pack [(0, 27, orNone 134217727 old), (27, 3, c.code)], pack [(0, 27, new), (31, 1, bit (decide (0 < held)))],
      pack [(0, 16, (offset % 65536).toNat), (16, 16, if 0 < held then held else skipped)] ]

/-- TIME_NOTICE with cause FREE_RUN (R10, 13.7). -/
def freeRunNotice (last : Option ClockMark) (wasResync : Bool) : JRecord :=
  .plain .timeNotice
    [ pack [(27, 3, 5)], 0,
      pack [(0, 11, orNone 2047 (last.map ClockMark.minute)), (11, 3, orNone 7 (last.map ClockMark.dow)), (14, 1, bit wasResync)] ]

/-- The causes of a BELL_NOTICE (R173). -/
inductive BellCause where
  | queueFull
  | supply
  | entryInvalid
  | freeRefused
  deriving DecidableEq, Repr

def BellCause.code : BellCause → Nat
  | .queueFull => 1
  | .supply => 2
  | .entryInvalid => 3
  | .freeRefused => 4

/-- BELL_NOTICE (R173): the line or gate, or none; the entry, or none; one value. -/
def bellNotice (now : Option Stamp) (c : BellCause) (lineOrGate entry : Option Nat) (value : Nat) : JRecord :=
  .plain .bellNotice
    [ pack [(0, 17, stampSecond now), (17, 3, c.code), (20, 4, orNone 15 lineOrGate), (24, 8, orNone 255 entry)],
      pack [(0, 16, stampDay now), (16, 8, value)], 0 ]

/-- The causes of a READER_NOTICE (R32) with the values they carry. -/
inductive ReaderCause where
  | offline (kind : Nat)
  | online (left : Nat)
  | tamper
  | sensorFault
  deriving DecidableEq, Repr

def ReaderCause.code : ReaderCause → Nat
  | .offline _ => 1
  | .online _ => 2
  | .tamper => 3
  | .sensorFault => 4

def ReaderCause.value : ReaderCause → Nat
  | .offline k => k
  | .online l => l
  | .tamper | .sensorFault => 0

/-- READER_NOTICE (R32). -/
def readerNotice (now : Option Stamp) (p : Fin 16) (c : ReaderCause) : JRecord :=
  .plain .readerNotice
    [ pack [(0, 17, stampSecond now), (17, 5, p.val), (22, 3, c.code), (25, 3, c.value)], pack [(0, 16, stampDay now)], 0 ]

/-! ### Orders (13.8; the catalogue under R197) -/

/-- The order of a code, 1 to 15 in the order of the catalogue. -/
def Order.ofCode (c : Nat) : Option Order :=
  if c = 0 then none else
  ([.setTime, .installWorkerTable, .amendWorker, .setPresence, .takeTotals, .settleException, .installShiftTable,
    .installBellTable, .setGate, .rearmDoor, .freePassage, .ring, .silenceBells, .clearStatus, .journalRestart] : List Order)[c - 1]?

/-- The parameters of an order (the catalogue). -/
def Order.paramCount : Order → Nat
  | .setTime => 4
  | .installWorkerTable => 2
  | .amendWorker => 7
  | .setPresence => 3
  | .takeTotals => 3
  | .settleException => 6
  | .installShiftTable => 1
  | .installBellTable => 2
  | .setGate => 7
  | .rearmDoor => 1
  | .freePassage => 2
  | .ring => 4
  | .silenceBells => 1
  | .clearStatus => 0
  | .journalRestart => 0

/-- The output words of an order (the catalogue). -/
def Order.outputCount : Order → Nat
  | .setTime => 0
  | .installWorkerTable => 3
  | .amendWorker => 0
  | .setPresence => 3
  | .takeTotals => 1
  | .settleException => 2
  | .installShiftTable => 0
  | .installBellTable => 0
  | .setGate => 1
  | .rearmDoor => 0
  | .freePassage => 1
  | .ring => 1
  | .silenceBells => 0
  | .clearStatus => 0
  | .journalRestart => 1

/-- The result codes (13.8). -/
inductive OrderResult where
  | done
  | badCode
  | badParam
  | notFound
  | tableInvalid (index : Nat)
  | busy
  | aborted (index : Nat)
  deriving DecidableEq, Repr

/-- The result word: the code, and the index of TABLE_INVALID and ABORTED beside it (R196, 13.8). -/
def OrderResult.word : OrderResult → Word
  | .done => pack [(0, 8, 1)]
  | .badCode => pack [(0, 8, 2)]
  | .badParam => pack [(0, 8, 3)]
  | .notFound => pack [(0, 8, 4)]
  | .tableInvalid i => pack [(0, 8, 5), (16, 16, i)]
  | .busy => pack [(0, 8, 6)]
  | .aborted i => pack [(0, 8, 7), (16, 16, i)]

/-- Parameter `i` of the order in hand. -/
def InHand.param (h : InHand) (i : Nat) : Nat := (h.params.getD i 0).toNat

/-! ### Anchor block (13.1) -/

/-- The signature of the anchor block. -/
def anchorSignature : Nat := 0x5A43C816

/-- The layout version the part accepts, shown in IDENT (13.9). -/
def layoutVersion : Nat := 2

/-- The words of the anchor block, and of the status block. -/
def anchorWords : Nat := 16
def statusWordCount : Nat := 88

/-- The address of the taken cell: word 15 of the anchor block. -/
def takenCell : Nat := 60

/-- The anchor block as read at start (R189). -/
structure Anchor where
  signature : Nat
  version : Nat
  workers : Table
  shift : Nat
  gateTable : Nat
  bells : Table
  exceptions : Table
  journalFirst : Nat
  journalLast : Nat
  firstSeq : Nat
  statusBlock : Nat
  holdLevel : Nat
  threshold : Nat
  deriving DecidableEq, Repr

def Anchor.read (m : Memory) : Anchor :=
  let w (i : Nat) : Nat := (readWord m (4 * i)).toNat
  { signature := w 0, version := field (readWord m 4) 0 16, workers := { base := w 2, count := w 3 }, shift := w 4,
    gateTable := w 5, bells := { base := w 6, count := w 7 }, exceptions := { base := w 8, count := w 9 },
    journalFirst := w 10, journalLast := w 11, firstSeq := w 12, statusBlock := w 13,
    holdLevel := field (readWord m 56) 0 16, threshold := field (readWord m 56) 16 16 }

end Sys2Proof.Machine
end

