-- ==== Sys2Proof/Machine/Flags.lean ====
section
/-! DEFINITION. What is computed from the state and shown outside: the causes in ATTENTION and the attention line (R199),
the registers as the host reads them (R187), the gatehouse alarm (R147), the line and coil drivers, and the words of the
status block (R198). -/

namespace Sys2Proof.Machine

/-! ### Attention (R183, R199) -/

/-- JOURNAL FILL: the unreleased records, held at 65,535 at most (R183). -/
def State.journalFill (s : State) : Nat := min s.journal.unreleased 65535

/-- JOURNAL_LEVEL is active while JOURNAL FILL is above the level threshold (R183). -/
def State.levelActive (s : State) : Bool := decide (s.journal.threshold < s.journalFill)

/-- JOURNAL_HOLD is active from a HOLD refusal until one second has passed without another (R183). -/
def State.holdActive (s : State) : Bool := s.journal.holdTimer.isSome

/-- Every cause with its active state, in the order of the table of R199, bit 0 first. -/
def State.causes (s : State) : List Bool :=
  let l := s.control.latched
  [l.ordersDone, l.orderRefused, l.startFailed, l.payException, l.doorFault, l.time, l.reader, l.releaseInvalid,
    l.journalDamaged, l.memoryFault, s.levelActive, s.holdActive]

/-- The value of a list of bits, bit 0 first. -/
def bitsValue : List Bool → Nat
  | [] => 0
  | b :: bs => bit b + 2 * bitsValue bs

/-- The attention line is driven while an active cause has its enable set (R199). -/
def State.attentionLine (s : State) : Bool :=
  (BitVec.ofNat 12 (bitsValue s.causes) &&& s.control.enables) != 0

/-! ### Registers as the host reads them (R187, 13.9) -/

def RunState.code : RunState → Nat
  | .stopped => 0
  | .starting => 1
  | .running => 2
  | .stopping => 3
  | .faulted => 4

def StartResult.code : StartResult → Nat
  | .none => 0
  | .started => 1
  | .cancelled => 2
  | .signature => 3
  | .version => 4
  | .workerTable => 5
  | .shiftTable => 6
  | .gateTable => 7
  | .bellTable => 8
  | .exceptionSlot => 9
  | .region => 10
  | .overlap => 11
  | .journal => 12

def State.identRead (_s : State) : Word := pack [(0, 8, layoutVersion), (8, 8, Config.designStep.toNat), (16, 16, 0x0816)]
def State.controlRead (s : State) : Word :=
  pack [(0, 1, bit s.control.runRequest), (1, 3, s.control.runState.code), (8, 4, s.control.startResult.code),
    (16, 16, s.control.startIndex)]
def State.orderPointerRead (s : State) : Word := if s.orders.walking then BitVec.ofNat 32 s.orders.current else 0
def State.attentionRead (s : State) : Word := BitVec.ofNat 32 (bitsValue s.causes)
def State.enableRead (s : State) : Word := s.control.enables.setWidth 32
def State.fillRead (s : State) : Word := pack [(0, 16, s.journalFill)]

/-! ### Drivers of the field lines (R127, R146, R161) -/

/-- How a strike coil is driven. -/
inductive CoilDrive where
  | off
  | full
  | holdDuty
  deriving DecidableEq, Repr

/-- A channel drives its coil fully in HIT, at the hold duty in HOLD and FREE, and not at all elsewhere (R127). -/
def Door.coil (d : Door) : CoilDrive := match d.state with
  | .hit => .full
  | .hold | .free => .holdDuty
  | .idle | .claim | .closing | .outOfService => .off

/-- The line driver is on in state ON and in no other state (R161). -/
def Line.driver (l : Line) : Bool := l.state == .on

/-! ### The gatehouse alarm (R147) -/

/-- A channel holds the alarm driven. -/
def Door.alarming (d : Door) : Bool :=
  (d.equipped && d.state == .outOfService) || d.forcedUnresolved || d.heldUnresolved

/-- Any condition that drives the alarm output (R147). -/
def State.alarmCondition (s : State) : Bool := s.supply.state == .low || gates.any fun g => (s.door g).alarming

/-- The alarm output after an event that took `before` to `after`: driven while a condition holds, the stretch timer started
when the last one clears, stopped when one arises (R147). -/
def followAlarm (before after : State) : State :=
  if after.alarmCondition then after.withControl { after.control with alarm := true, stretch := none }
  else if before.alarmCondition then
    after.withControl { after.control with alarm := true, stretch := some after.time.osc }
  else after

/-! ### The status block (R198, 13.9) -/

def DoorState.code : DoorState → Nat
  | .idle => 0
  | .claim => 1
  | .hit => 2
  | .hold => 3
  | .closing => 4
  | .free => 5
  | .outOfService => 6

/-- The latched flags of a channel, OVERCURRENT lowest (log entry 52). -/
def DoorFlags.code (f : DoorFlags) : Nat :=
  bit f.overcurrent + 2 * bit f.loadOpen + 4 * bit f.coilHot + 8 * bit f.hitNotReached + 16 * bit f.noMove +
    32 * bit f.forced + 64 * bit f.heldOpen

def ReaderState.code : ReaderState → Nat
  | .absent => 0
  | .probing => 1
  | .online => 2
  | .offline => 3

def ClockState.code : ClockState → Nat
  | .unset => 0
  | .free => 1
  | .locked => 2
  | .resync => 3

/-- The four words of a door section (R148). A measure that is none is written 0 (log entry 65). -/
def Door.section4 (d : Door) : List Word :=
  [ pack [(0, 3, d.state.code), (8, 7, d.flags.code)],
    pack [(0, 12, d.measures.peak), (16, 12, orNone 0 d.measures.valley), (31, 1, bit d.measures.valley.isSome)],
    pack [(0, 16, orNone 0 d.measures.reaction), (16, 16, orNone 0 d.measures.travel)],
    pack [(0, 16, d.lastResistance)] ]

/-- The three words of a reader section (R23). -/
def Reader.section3 (r : Reader) : List Word :=
  [ pack [(0, 2, r.state.code), (8, 1, bit r.tamper), (9, 1, bit r.sensorFault)],
    pack [(0, 16, r.checkErrors), (16, 16, r.noResponses)], pack [(0, 16, r.frameErrors), (16, 16, r.stales)] ]

/-- The two words of the time section (R1, R3, R7). -/
def TimeBase.section2 (t : TimeBase) : List Word :=
  [ pack [(0, 2, t.clock.code), (2, 11, orNone 2047 (t.lastMark.map ClockMark.minute)), (13, 3, orNone 7 (t.lastMark.map ClockMark.dow)),
      (16, 16, t.day)],
    pack [(0, 16, t.markErrors)] ]

/-- The two words of the install progress section (R40). -/
def Install.section2 : Install → List Word
  | .idle => [pack [(0, 2, 0)], 0]
  | .verify _ i => [pack [(0, 2, 1)], BitVec.ofNat 32 i]
  | .carry c => [pack [(0, 2, 2)], BitVec.ofNat 32 (orNone 0 c.cursor)]

/-- The 88 words of the status block (13.9). -/
def State.statusWords (s : State) : List Word :=
  gates.flatMap (fun g => (s.door g).section4) ++ positions.flatMap (fun p => (s.reader p).section3) ++ s.time.section2 ++
    [pack [(0, 16, s.journal.denialsUnrecorded), (16, 16, s.journal.noticesLost)]] ++
    [pack [(0, 8, orNone 0 (s.engine.lastException.code.map ExcClass.code)), (8, 8, s.engine.lastException.slot)],
      BitVec.ofNat 32 s.engine.lastException.badge] ++
    s.engine.install.section2 ++ [0]

/-- Each word of the status block whose fields an event changed is written, while an address is held (R198). -/
def publish (before after : State) : State := match after.control.statusBlock with
  | none => after
  | some a => after.storeChanged a before.statusWords after.statusWords

end Sys2Proof.Machine
end

