-- ==== Sys2Proof/Machine/Room.lean ====
section
/-! DEFINITION. The operations of the journal writer: room, records, release walks, notices (R174–R186). -/

namespace Sys2Proof.Machine

/-- The capacity C in words; 0 while no journal is held (R174). -/
def Journal.capacity (j : Journal) : Nat := match j.region with
  | none => 0
  | some r => (r.last - r.first) / 4 + 1

/-- Free = C − U − Rv (R175). -/
def Journal.freeWords (j : Journal) : Nat := j.capacity - (j.used + j.reserved)

/-- A position moved on by `k` words, returning to the start at the word after the end (R174). -/
def Region.advance (r : Region) (p k : Nat) : Nat := if r.last < p + 4 * k then r.first else p + 4 * k

/-- The words from a position to the end of the region, inclusive (R178). -/
def Region.wordsLeft (r : Region) (p : Nat) : Nat := (r.last - p) / 4 + 1

/-- The largest sequence number (R179). -/
def seqMax : Nat := 4294967295

/-- The successor and predecessor on the ring of sequence numbers from 1 to 4,294,967,295 (R179). -/
def seqSucc (n : Nat) : Nat := if n = seqMax then 1 else n + 1
def seqPred (n : Nat) : Nat := if n = 1 then seqMax else n - 1

/-- The distance from `a` to `b`: the successor steps that lead from a to b (R179). -/
def seqDistance (a b : Nat) : Nat := ahead seqMax a b

/-- A reservation of a punch, and of a close, in words (R70, R123). -/
def punchWords : Nat := 12

/-! ### Writing (R178) -/

/-- A WRAP filler at the write position, when fewer than `k` words are left before the end (R178 step 1). -/
def State.wrapFor (s : State) (r : Region) (k : Nat) : State :=
  if r.wordsLeft s.journal.writePos < k then
    let p := s.journal.writePos
    ((s.storeAll (p + 4) [0, 0, 0]).store p wrapHeader).withJournal
      { s.journal with writePos := r.first, used := s.journal.used + 4 }
  else s

/-- A record at the write position, with the next sequence number, its header word last (R178 steps 2–4). -/
def State.putRecord (s : State) (r : Region) (x : JRecord) : State :=
  let j := s.journal
  ((s.storeAll (j.writePos + 4) x.body).store j.writePos (x.header j.nextSeq)).withJournal
    { j with writePos := r.advance j.writePos x.size, used := j.used + x.size, unreleased := j.unreleased + 1,
             nextSeq := seqSucc j.nextSeq }

/-- A record written after the filler it may need; while no journal is held a write is refused (R174, R178). -/
def State.writeRecord (s : State) (x : JRecord) : State := match s.journal.region with
  | none => s
  | some r => (s.wrapFor r x.size).putRecord r x

/-- The records of one event, in order. -/
def State.writeRecords (s : State) (xs : List JRecord) : State := xs.foldl State.writeRecord s

/-- The end of an event that held a reservation of `n` words: the reservation is spent, and the words that its records left
over are given back (R178, R176). `u0` is the count of used words when the event began to write. -/
def State.endReservation (s : State) (n u0 : Nat) : State :=
  s.withJournal { s.journal with reserved := s.journal.reserved - n,
                                 roomGiven := s.journal.roomGiven || decide (s.journal.used - u0 < n) }

/-- The records of an event written from its reservation of `n` words, the words left over given back (R178). -/
def State.spend (s : State) (n : Nat) (xs : List JRecord) : State := (s.writeRecords xs).endReservation n s.journal.used

/-! ### Release walks (R180, R181) -/

/-- What the header word at the read position is found to be (R181). -/
inductive HeaderCheck where
  | filler
  | record (len : Nat)
  | fails
  deriving DecidableEq, Repr

/-- The check of the header word at the read position (R181). -/
def Journal.checkHeader (j : Journal) (r : Region) (h : Word) : HeaderCheck :=
  let kind := field h 28 4
  let len := if flagAt h 27 then 8 else 4
  if kind = 15 ∧ len = 4 ∧ j.readPos + 12 = r.last then .filler
  else if kindLength kind = some len ∧ field h 0 25 = j.oldestSeq % 2 ^ 25 ∧ len ≤ r.wordsLeft j.readPos then .record len
  else .fails

/-- One release step after another: at most `n` records, and every filler reached (R181). Each step releases at least four
words, so the used words bound the steps (`fuel`). A header that names more than the used words leaves U at 0 (log entry 64). -/
def releaseLoop (m : Memory) (r : Region) : Nat → Nat → Journal → Journal
  | 0, _, j => j
  | fuel + 1, n, j =>
    if j.used = 0 then j
    else match j.checkHeader r (readWord m j.readPos) with
      | .filler => releaseLoop m r fuel n { j with readPos := r.first, used := j.used - 4 }
      | .record len =>
        if n = 0 then j
        else releaseLoop m r fuel (n - 1)
          { j with readPos := r.advance j.readPos len, used := j.used - len, unreleased := j.unreleased - 1,
                   oldestSeq := seqSucc j.oldestSeq }
      | .fails => { j with damaged := true }

/-- How many records the taken cell's value releases, or none when it is invalid (R180). -/
def Journal.releaseCount (j : Journal) (t : Nat) : Option Nat :=
  if t = 0 ∨ t = seqPred j.oldestSeq then some 0
  else if seqDistance j.oldestSeq t < j.unreleased then some (seqDistance j.oldestSeq t + 1)
  else none

/-- A release walk: not made while no journal is held or the journal writer is damaged (R180, R176, R181). -/
def State.releaseWalk (s : State) : State := match s.journal.region with
  | none => s
  | some r =>
    if s.journal.damaged then s
    else match s.journal.releaseCount (s.load takenCell).toNat with
      | none => s.latch .setReleaseInvalid
      | some n =>
        let j := releaseLoop s.mem r s.journal.used n s.journal
        let s := s.withJournal { j with roomGiven := j.roomGiven || decide (j.used < s.journal.used) }
        if j.damaged then s.latch .setJournalDamaged else s

/-! ### Room (R175, R176) -/

/-- A request that needs `need` free words: granted at once, or after a release walk, or refused (R175, R176).
While no journal is held every request is refused (R174). -/
def State.requestRoom (s : State) (need : Nat) : Bool × State :=
  if s.journal.region.isNone then (false, s)
  else if need ≤ s.journal.freeWords then (true, s)
  else
    let s := s.releaseWalk
    (decide (need ≤ s.journal.freeWords), s)

/-- Words added to Rv. -/
def State.reserve (s : State) (n : Nat) : State := s.withJournal { s.journal with reserved := s.journal.reserved + n }

/-- The close class: `n` words reserved out of any free words (R175). -/
def State.requestClose (s : State) (n : Nat) : Bool × State :=
  let r := s.requestRoom n
  if r.1 then (true, r.2.reserve n) else r

/-- The presentation class: 12 words, which must leave H + 32 free (R70, R175). A refusal is HOLD: counted, and JOURNAL_HOLD
active from now for a second (R176, R183, R184). -/
def State.requestPresentation (s : State) : Bool × State :=
  let r := s.requestRoom (s.journal.holdLevel + 32 + punchWords)
  if r.1 then (true, r.2.reserve punchWords)
  else (false, r.2.withJournal { r.2.journal with denialsUnrecorded := bump r.2.journal.denialsUnrecorded,
                                                  holdTimer := some r.2.time.osc })

/-- A notice: handed to the journal writer in RUNNING and STOPPING only, written at once or lost and counted
(R15, R32, R148, R173, R176, R184). -/
def State.notice (s : State) (x : JRecord) : State :=
  if s.control.runState = .running ∨ s.control.runState = .stopping then
    let r := s.requestRoom 4
    if r.1 then r.2.writeRecord x
    else r.2.withJournal { r.2.journal with noticesLost := bump r.2.journal.noticesLost }
  else s

end Sys2Proof.Machine
end

