-- ==== Sys2Proof/Machine/Slot.lean ====
section
/-! DEFINITION. The operations of the hit arbiter (R154–R157): claim, grant, withdrawal, release, emptying. -/

namespace Sys2Proof.Machine

/-- A grant may be made: the supply NORMAL and the run state not FAULTED (R155). -/
def State.mayGrant (s : State) : Bool := s.supply.state == .normal && s.control.runState != .faulted

/-- A door takes its grant as the start of its hit: HIT, movement values cleared, SEARCH (R131). -/
def Door.startHit (d : Door) : Door :=
  if d.state = .claim then
    { d with state := .hit, overRun := 0,
             movement := { Movement.cleared with openAtStart := d.contact == .opened } }
  else d

/-- A line takes its grant by setting granted (R166). -/
def Line.grant (l : Line) : Line := if l.state = .claim then { l with granted := true } else l

/-- The grant handed to the claimant that becomes holder (R155). -/
def State.grantTo (s : State) (c : Claimant) : State :=
  let s := s.withArbiter { s.arbiter with holder := some c }
  match c with
  | .door g => s.setDoor g (s.door g).startHit
  | .line n => s.setLine n (s.line n).grant

/-- The grant to the head of the list, when the holder is none and a grant may be made (R155). -/
def State.grantNext (s : State) : State :=
  if s.mayGrant && s.arbiter.holder.isNone then
    match s.arbiter.requests with
    | [] => s
    | c :: cs => (s.withArbiter { s.arbiter with requests := cs }).grantTo c
  else s

/-- A claim (R154). A claim refused for LOW changes nothing here; the claimant takes the refusal as it takes LOW. -/
def State.claimSlot (s : State) (c : Claimant) : State :=
  if s.supply.state = .low then s
  else if s.arbiter.holder = some c ∨ c ∈ s.arbiter.requests then s
  else (s.withArbiter { s.arbiter with requests := s.arbiter.requests ++ [c] }).grantNext

/-- A release: from the holder it makes the holder none and grants to the head; from another it is ignored (R156). -/
def State.releaseSlot (s : State) (c : Claimant) : State :=
  if s.arbiter.holder = some c then (s.withArbiter { s.arbiter with holder := none }).grantNext else s

/-- A withdrawal: from the list it leaves the list, from the holder it is a release, else it is ignored (R155). -/
def State.withdrawClaim (s : State) (c : Claimant) : State :=
  if c ∈ s.arbiter.requests then s.withArbiter { s.arbiter with requests := s.arbiter.requests.erase c }
  else s.releaseSlot c

/-- The list emptied and the holder none, at LOW and at a memory fault (R157). -/
def State.emptyArbiter (s : State) : State := s.withArbiter { holder := none, requests := [] }

end Sys2Proof.Machine
end

