-- ==== Sys2Proof/Machine/Channel.lean ====
section
/-! DEFINITION. The operations of a door channel (R127–R150): reports, cycles, the hit and its samples, hold, free passage,
contact, faults, parameters. Each is an operation on the whole state for one gate. -/

namespace Sys2Proof.Machine

/-- The parameters of a channel that holds none: it is not equipped and uses none of them (R127). -/
def DoorParams.unset : DoorParams :=
  { iStart := 0, iDip := 0, iChk := 0, deglitch := 1, hitMax := 10, endHitAuto := false, policy := .proceed, holdDuty := 10,
    openTime := 1, mode := .contact, heldLimit := 5, rHot := 0, freeAllowed := false }

def Door.par (d : Door) : DoorParams := d.params.getD .unset

/-- Ticks of 50 ms in a second. -/
def ticksPerSecond : Nat := 20

/-! ### Reports to the attendance engine (R81) -/

/-- A report on a punch not yet reported. -/
def Punch.reported (p : Punch) (o : PassageReport) : Punch := if p.report.isNone then { p with report := some o } else p

/-- The oldest entry of a queue that is not yet reported and names the worker record `w`, changed by `f`: one entry at most,
whatever else the queue holds. -/
def mapOldest (w : WorkerRef) (f : Punch → Punch) : List Punch → List Punch
  | [] => []
  | p :: q => if p.worker = w ∧ p.report.isNone then f p :: q else p :: mapOldest w f q

/-- The served entry changed by `f`. `Door.served` holds the entry's worker record, and the entry meant is the oldest one not yet
reported that names it. Where a direct host write has cleared an in-flight gate and one worker stands in a queue twice, that is
the entry the cycle was begun for, and the other is left alone (R130; DEDUCED, log entry 72). -/
def State.changeServed (s : State) (g : Gate) (f : Punch → Punch) : State := match (s.door g).served with
  | none => s
  | some w => s.setQueue g (mapOldest w f (s.queue g))

/-- A report for the served entry, and for no other (R81, R130; log entry 72). -/
def State.reportServed (s : State) (g : Gate) (o : PassageReport) : State := s.changeServed g fun p => { p with report := some o }

/-- A report for the whole queue: every entry not yet reported (R81). -/
def State.reportAll (s : State) (g : Gate) (o : PassageReport) : State :=
  s.setQueue g ((s.queue g).map fun p => p.reported o)

/-- NO_MOVE set in the served entry's flags, and in no other's (R133, R134; log entry 72). -/
def State.markNoMove (s : State) (g : Gate) : State := s.changeServed g fun p => { p with noMove := true }

/-- A DOOR_NOTICE with the current stamp (R148). -/
def State.doorNoticeAt (s : State) (g : Gate) (c : DoorCause) (notReached : Bool) (value : Nat) : State :=
  s.notice (doorNotice s.time.stamp g c notReached value)

/-! ### Beginning a cycle (R130) -/

/-- A cycle of kind PUNCH for the oldest entry not yet reported (R130, second row). -/
def State.beginPunch (s : State) (g : Gate) : State :=
  match (s.queue g).find? fun p => p.report.isNone with
  | none => s
  | some p =>
    (s.setDoor g { s.door g with state := .claim, cycle := .punch, served := some p.worker }).claimSlot (.door g)

/-- The test of R130: an equipped IDLE channel begins a free cycle, or a punch cycle; a pending free request whose
conditions fail is dropped. While the supply is LOW no channel begins a cycle (R146). -/
def State.beginCycle (s : State) (g : Gate) : State :=
  let d := s.door g
  if !d.equipped || d.state != .idle || s.supply.state == .low then s
  else if d.freePending then
    if d.par.freeAllowed && !d.flags.coilHot then
      (s.setDoor g { d with state := .claim, cycle := .free, served := none, freePending := false }).claimSlot (.door g)
    else (s.setDoor g { d with freePending := false, freeEnd := none }).beginPunch g
  else s.beginPunch g

/-- The channel enters IDLE, its coil off, and tests R130. -/
def State.toIdle (s : State) (g : Gate) : State :=
  (s.setDoor g { s.door g with state := .idle, served := none, openTimer := none }).beginCycle g

/-- The held-open timer started if it is not running (R138). -/
def Door.startHeld (d : Door) (now : Nat) : Door := if d.heldTimer.isNone then { d with heldTimer := some now } else d

/-- The held-open timer of a channel that leaves FREE, or its supervision begun, with the contact OPEN: it runs in every state in
which the contact stands OPEN and supervision applies (R137, log entry 46). -/
def Door.heldIfOpen (d : Door) (now : Nat) : Door :=
  if d.contact = .opened ∧ d.settling = false then d.startHeld now else d

/-- The channel enters CLOSING, its coil off, with the held-open timer running (R133, R135, R145). -/
def State.toClosing (s : State) (g : Gate) : State :=
  s.setDoor g (({ s.door g with state := .closing, served := none, openTimer := none } : Door).startHeld s.time.osc)

/-- CLOSING if the contact stands OPEN, IDLE otherwise (R140, R141, R145). -/
def State.toClosingOrIdle (s : State) (g : Gate) : State :=
  if (s.door g).contact = .opened then s.toClosing g else s.toIdle g

/-! ### The hit and its samples (R131–R134, R139) -/

/-- The overcurrent level, 15.0 A in current units (R139). -/
def overcurrentLevel : Nat := 3750

/-- One sample of a hit (R131, R132). In a hit that goes on after its valley has completed, V is followed as before (log entry
68). -/
def Movement.step (p : DoorParams) (m : Movement) (x : Nat) : Movement :=
  let t := m.ms + 1
  let m := { m with ms := t }
  match m.substate with
  | .search =>
    let m := if m.peak < x then { m with peak := x, peakTime := t } else m
    if p.iStart ≤ x then { m with substate := .seekDip } else m
  | .seekDip =>
    if m.peak < x then { m with peak := x, peakTime := t, dipRun := 0 }
    else if p.iDip ≤ m.peak ∧ x ≤ m.peak - p.iDip then
      let m := if m.dipRun = 0 ∨ x < m.runMin then { m with runMin := x, runMinTime := t } else m
      let m := { m with dipRun := m.dipRun + 1 }
      if p.deglitch ≤ m.dipRun then
        { m with moved := true, valley := m.runMin, valleyTime := m.runMinTime, substate := .seekValley }
      else m
    else { m with dipRun := 0 }
  | .seekValley =>
    if x < m.valley then { m with valley := x, valleyTime := t }
    else if m.valley + p.iDip ≤ x then { m with substate := .recover }
    else m
  | .recover =>
    if x < m.valley then { m with valley := x, valleyTime := t, substate := .seekValley } else m

/-- The measures of a hit (R132). -/
def Movement.measures (m : Movement) : Measures :=
  if m.moved then
    { peak := m.peak, valley := some m.valley, reaction := some m.valleyTime, travel := some (m.valleyTime - m.peakTime) }
  else { peak := m.peak, valley := none, reaction := none, travel := none }

/-- The measures written, once in each hit (R132). -/
def Door.writeMeasures (d : Door) : Door :=
  if d.movement.written then d
  else { d with measures := d.movement.measures, movement := { d.movement with written := true } }

/-- What a coil sample brings about. -/
structure CoilEvents where
  moved : Bool := false
  valley : Bool := false
  ends : Bool := false
  trip : Bool := false
  window : Bool := false
  deriving DecidableEq, Repr

def CoilEvents.any (e : CoilEvents) : Bool := e.moved || e.valley || e.ends || e.trip || e.window

/-- The sample in HIT: the movement values, the overcurrent run, and what it brings about (R131, R132, R133, R139).
A sample that trips the overcurrent does not end the hit by R133. -/
def Door.hitSample (d : Door) (x : CoilSample) : Door × CoilEvents :=
  let p := d.par
  let m := d.movement.step p x.current
  let overs := if overcurrentLevel ≤ x.current then d.overRun + 1 else 0
  let valley := d.movement.substate == .recover && decide (d.movement.peak ≤ x.current) && !d.movement.written
  let d' := { d with movement := m, overRun := overs }
  if 3 ≤ overs then (d', { trip := true })
  else (d', { moved := m.moved && !d.movement.moved, valley := valley,
              ends := (valley && p.endHitAuto) || decide (p.hitMax ≤ m.ms) })

/-- The samples of one resistance window (R136). -/
def windowSamples : Nat := 100

/-- The sample in HOLD or FREE: the overcurrent run and the resistance window (R136, R139). A sample that trips closes no window
(log entry 54). -/
def Door.holdSample (d : Door) (x : CoilSample) : Door × CoilEvents :=
  let overs := if overcurrentLevel ≤ x.current then d.overRun + 1 else 0
  let d' := { d with overRun := overs, winCount := d.winCount + 1, winMillivolts := d.winMillivolts + x.millivolts,
                     winCurrent := d.winCurrent + x.current }
  if 3 ≤ overs then (d', { trip := true }) else (d', { window := decide (windowSamples ≤ d'.winCount) })

/-- A coil sample: the coil is sampled in HIT, HOLD and FREE (R131, R136, R139). -/
def Door.coilSample (d : Door) (x : CoilSample) : Door × CoilEvents := match d.state with
  | .hit => d.hitSample x
  | .hold | .free => d.holdSample x
  | .idle | .claim | .closing | .outOfService => (d, {})

/-- Samples taken one after another up to the first that brings something about: the channel after it, what it brings, and
the samples left. -/
def Door.feed (d : Door) : List CoilSample → Door × CoilEvents × List CoilSample
  | [] => (d, {}, [])
  | x :: xs =>
    let r := d.coilSample x
    if r.2.any then (r.1, r.2, xs) else r.1.feed xs

/-- HOLD entered: the hold duty, the open timer and the resistance window (R135). -/
def State.enterHold (s : State) (g : Gate) : State :=
  s.setDoor g { s.door g with state := .hold, openTimer := some s.time.osc, winCount := 0, winMillivolts := 0, winCurrent := 0 }

/-- FREE entered: the hold duty and the resistance window; the contact is no longer supervised; FREE entered is reported
for every entry of the queue (R143, R144, log entry 17). -/
def State.enterFree (s : State) (g : Gate) : State :=
  (s.setDoor g { s.door g with state := .free, served := none, openTimer := none, heldTimer := none, winCount := 0,
                               winMillivolts := 0, winCurrent := 0 }).reportAll g .free

/-- NO_MOVE latched, with its notice (R134). -/
def State.latchNoMove (s : State) (g : Gate) (notReached : Bool) : State :=
  let d := s.door g
  (s.setDoor g { d with flags := { d.flags with noMove := true } }).doorNoticeAt g .noMove notReached d.movement.peak

/-- After a hit with MOVED, or without it under PROCEED: HOLD for a punch, FREE for free passage (R133, R134). -/
def State.afterHit (s : State) (g : Gate) : State := match (s.door g).cycle with
  | .punch => s.enterHold g
  | .free => s.enterFree g

/-- The end of a hit (R133, R134). -/
def State.endHit (s : State) (g : Gate) : State :=
  let s := s.releaseSlot (.door g)
  let d := (s.door g).writeMeasures
  let notReached := decide (d.movement.peak < d.par.iChk)
  let s := s.setDoor g (if notReached then { d with flags := { d.flags with hitNotReached := true } } else d)
  if d.cycle = .punch ∧ (d.movement.earlyOpening || d.movement.openAtStart) = true ∧ d.contact = .opened then
    let s := if d.movement.moved then s else (s.latchNoMove g notReached).markNoMove g
    (s.reportServed g .passed).toClosing g
  else if d.movement.moved then s.afterHit g
  else
    let s := s.latchNoMove g notReached
    match d.par.policy, d.cycle with
    | .proceed, .punch => (s.markNoMove g).afterHit g
    | .proceed, .free => s.afterHit g
    | .abort, .punch => (s.reportServed g (.voided .noMove)).toIdle g
    | .abort, .free => (s.setDoor g { s.door g with freeEnd := none }).toIdle g

/-- The overcurrent trip (R139); out of FREE the contact is supervised again (R137). -/
def State.tripOvercurrent (s : State) (g : Gate) : State :=
  let d := s.door g
  let measured := if d.state = .hit then d.writeMeasures else d
  let out : Door := { measured with state := .outOfService, served := none, openTimer := none, overcurrentHold := true,
                                    flags := { d.flags with overcurrent := true }, freeEnd := none, freePending := false }
  let s := s.setDoor g (out.heldIfOpen s.time.osc)
  let s := (s.releaseSlot (.door g)).reportAll g (.voided .overcurrent)
  (s.doorNoticeAt g .overcurrent false d.state.code).latch .setDoorFault

/-! ### Free passage (R142–R145) -/

/-- The channel leaves FREE: coil off, free end minute none, CLOSING or IDLE (R145). -/
def State.leaveFree (s : State) (g : Gate) : State :=
  (s.setDoor g { s.door g with freeEnd := none }).toClosingOrIdle g

/-- A free end request (R142). -/
def State.freeEndRequest (s : State) (g : Gate) : State :=
  let d := s.door g
  if d.freePending then s.setDoor g { d with freePending := false, freeEnd := none }
  else match d.state, d.cycle with
    | .claim, .free => ((s.setDoor g { d with freeEnd := none }).withdrawClaim (.door g)).toIdle g
    | .hit, .free =>
      ((s.setDoor g { d.writeMeasures with state := .idle, freeEnd := none }).releaseSlot (.door g)).toIdle g
    | .free, _ => s.leaveFree g
    | _, _ => s

/-- The reasons of a refused free request, in the order they are tested (R142, R164). -/
inductive FreeRefusal where
  | notEquipped
  | notAllowed
  | coilHot
  | outOfService
  | supply
  deriving DecidableEq, Repr

def FreeRefusal.code : FreeRefusal → Nat
  | .notEquipped => 1
  | .notAllowed => 2
  | .coilHot => 3
  | .outOfService => 4
  | .supply => 5

/-- Why a free request would be refused now (R142). -/
def State.freeRefusal (s : State) (g : Gate) : Option FreeRefusal :=
  let d := s.door g
  if !d.equipped then some .notEquipped
  else if !d.par.freeAllowed then some .notAllowed
  else if d.flags.coilHot then some .coilHot
  else if d.state = .outOfService then some .outOfService
  else if s.supply.state = .low then some .supply
  else none

/-- The difference of two minutes on the cycle of R1, from −47,185,199 to 47,185,200. -/
def minuteDiff (a b : Nat) : Int :=
  let d := ahead minuteCycle b a
  if d ≤ minuteCycle / 2 then (d : Int) else (d : Int) - minuteCycle

/-- The later of two minutes: the one further ahead of the current absolute minute (R142). -/
def laterMinute (now a b : Nat) : Nat := if minuteDiff a now < minuteDiff b now then b else a

/-- The free end minute with a new one: the later, where one is held (R142). -/
def laterHeld (now : Nat) (held : Option Nat) (e : Nat) : Nat := match held with
  | none => e
  | some h => laterMinute now h e

/-- A free request that is not refused, taken by the door state (R142). -/
def State.takeFreeRequest (s : State) (g : Gate) (e : Nat) : State :=
  let d := s.door g
  let later := laterHeld s.time.absMinute d.freeEnd e
  match d.state, d.cycle with
  | .idle, _ => (s.setDoor g { d with freeEnd := some e, freePending := true }).beginCycle g
  | .claim, .free | .hit, .free | .free, _ => s.setDoor g { d with freeEnd := some later }
  | .claim, .punch | .hit, .punch | .hold, _ | .closing, _ =>
    s.setDoor g { d with freeEnd := some later, freePending := true }
  | .outOfService, _ => s

/-- A minute boundary at the door: at or beyond the free end minute it ends the window, the free cycle or the pending
request (R145). -/
def State.doorBoundary (s : State) (m : Nat) (g : Gate) : State := match (s.door g).freeEnd with
  | none => s
  | some e => if minuteReached e m then s.freeEndRequest g else s

/-! ### The contact (R129, R137, R138) -/

/-- A forced opening (R138). -/
def State.forced (s : State) (g : Gate) : State :=
  let d := s.door g
  let d' := ({ d with flags := { d.flags with forced := true }, forcedUnresolved := true } : Door).startHeld s.time.osc
  ((s.setDoor g d').doorNoticeAt g .forced false d.state.code).latch .setDoorFault

/-- The contact taken OPEN: the held-open timer runs from here in every state but FREE, where the contact is not supervised
(R137, R144, log entry 46). -/
def Door.openContact (d : Door) (now : Nat) : Door :=
  let d' : Door := { d with contact := .opened }
  if d.state = .free then d' else d'.startHeld now

/-- An opening, by the door state (R129). -/
def State.contactOpens (s : State) (g : Gate) : State :=
  let d := s.door g
  let s := s.setDoor g (d.openContact s.time.osc)
  match d.state, d.cycle with
  | .idle, _ => (s.forced g).toClosing g
  | .claim, _ => s.forced g
  | .hit, .punch => s.setDoor g { s.door g with movement := { d.movement with earlyOpening := true } }
  | .hit, .free => s
  | .hold, _ => (s.reportServed g .passed).toClosing g
  | .closing, _ => s
  | .free, _ => s
  | .outOfService, _ => s.forced g

/-- A closing: resolves the forced and held-open conditions; a CLOSING channel becomes IDLE (R129, R137). In FREE it is
ignored as an event (R144). In every state it ends the standing open, and the next may make its own HELD_OPEN (R137). -/
def State.contactCloses (s : State) (g : Gate) : State :=
  let d := s.door g
  if d.state = .free then s.setDoor g { d with contact := .closed, heldRaised := false }
  else
    let s := s.setDoor g { d with
      contact := .closed, forcedUnresolved := false, heldUnresolved := false, heldRaised := false, heldTimer := none }
    if d.state = .closing then s.toIdle g else s

/-- The contact taken as it stands at the start of supervision (R129). Found OPEN it takes an IDLE channel to CLOSING, and the
held-open timer runs from here in every state but FREE (R137, log entry 46); a channel in CLOSING that it finds CLOSED becomes IDLE
(log entry 18). -/
def State.contactStands (s : State) (g : Gate) (level : Contact) : State :=
  let d : Door := { s.door g with settling := false }
  match level with
  | .opened =>
    let s := s.setDoor g (d.openContact s.time.osc)
    if d.state = .idle then s.toClosing g else s
  | .closed =>
    let s := s.setDoor g { d with contact := .closed, heldRaised := false }
    if d.state = .closing then s.contactCloses g else s

/-- Samples that a new level must hold for (R129). -/
def steadySamples : Nat := 20

/-- One contact sample: the level and the samples it has held for (R129). -/
def Door.contactSample (d : Door) (x : Contact) : Door :=
  if x = d.rawLevel then { d with rawRun := min steadySamples (d.rawRun + 1) } else { d with rawLevel := x, rawRun := 1 }

/-- What the contact samples so far bring about. -/
inductive ContactEvent where
  | taken (level : Contact)
  | opening
  | closing
  deriving DecidableEq, Repr

/-- A change of level is taken when the new level has held for 20 samples; a contact being settled is then taken as it
stands (R129). -/
def Door.contactEvent (d : Door) : Option ContactEvent :=
  if d.rawRun < steadySamples then none
  else if d.settling then some (.taken d.rawLevel)
  else if d.rawLevel = d.contact then none
  else some (match d.rawLevel with
    | .opened => .opening
    | .closed => .closing)

/-- Samples taken up to the first that brings an event: the channel after it, the event, and the samples left. -/
def Door.feedContact (d : Door) : List Contact → Door × Option ContactEvent × List Contact
  | [] => (d, none, [])
  | x :: xs =>
    let d := d.contactSample x
    match d.contactEvent with
    | some e => (d, some e, xs)
    | none => d.feedContact xs

/-- The contact input is sampled: an equipped channel in passage mode CONTACT (R129). -/
def Door.supervised (d : Door) : Bool := d.equipped && d.par.mode == .contact

/-! ### The resistance window (R136) -/

/-- The resistance of a window in units of 10 mΩ, from its sums of mV and of 4 mA units (R136, log entry 9). -/
def windowResistance (millivolts current : Nat) : Nat :=
  if current = 0 then 65535 else min 65535 (25 * millivolts / current)

/-- A resistance window closes (R136); COIL_HOT ends FREE (R145). -/
def State.closeWindow (s : State) (g : Gate) : State :=
  let d := s.door g
  let r := windowResistance d.winMillivolts d.winCurrent
  let d := { d with lastResistance := r, winCount := 0, winMillivolts := 0, winCurrent := 0 }
  if d.par.rHot < r ∧ d.flags.coilHot = false then
    let s := ((s.setDoor g { d with flags := { d.flags with coilHot := true } }).doorNoticeAt g .coilHot false r).latch .setDoorFault
    if d.state = .free then s.leaveFree g else s
  else s.setDoor g d

/-- What a sample brought about, acted on (R131–R133, R136, R139). -/
def State.coilEvents (s : State) (g : Gate) (e : CoilEvents) : State :=
  if e.trip then s.tripOvercurrent g
  else if e.window then s.closeWindow g
  else
    let s := if e.valley then s.setDoor g (s.door g).writeMeasures else s
    if e.ends then s.endHit g else s

/-! ### Faults, supply, parameters (R128, R140, R141, R146, R150) -/

/-- The coil test fails (R140). -/
def State.loadTestFails (s : State) (g : Gate) : State :=
  let d := s.door g
  if d.openLoadHold then s.setDoor g { d with passRun := 0 }
  else
    let s := s.setDoor g { d with flags := { d.flags with loadOpen := true }, openLoadHold := true, passRun := 0,
                                  state := .outOfService, served := none }
    ((s.reportAll g (.voided .loadOpen)).doorNoticeAt g .loadOpen false 0).latch .setDoorFault

/-- The coil test passes: the third in a run clears the open-load hold (R140). -/
def State.loadTestPasses (s : State) (g : Gate) : State :=
  let d := s.door g
  if !d.openLoadHold then s
  else if d.passRun + 1 < 3 then s.setDoor g { d with passRun := d.passRun + 1 }
  else
    let s := s.setDoor g { d with openLoadHold := false, passRun := 0 }
    if d.overcurrentHold then s else s.toClosingOrIdle g

/-- REARM DOOR on a channel with the overcurrent hold set (R141). -/
def State.rearm (s : State) (g : Gate) : State :=
  let d := s.door g
  let s := s.setDoor g { d with overcurrentHold := false, flags := { d.flags with overcurrent := false } }
  if d.openLoadHold then s else s.toClosingOrIdle g

/-- The LOW event at a channel (R146). -/
def State.doorLow (s : State) (g : Gate) : State :=
  let d := s.door g
  let s := s.setDoor g { d with freeEnd := none, freePending := false }
  let s := s.reportAll g (.voided .supply)
  match d.state with
  | .claim => (s.withdrawClaim (.door g)).toIdle g
  | .hit => ((s.setDoor g (s.door g).writeMeasures).releaseSlot (.door g)).toIdle g
  | .hold | .free => s.toClosingOrIdle g
  | .idle | .closing | .outOfService => s

/-- Entry to STOPPING at a channel: free passage ends, punch cycles go on (R150). -/
def State.doorStop (s : State) (g : Gate) : State :=
  let s := s.freeEndRequest g
  let s := s.setDoor g { s.door g with freePending := false, freeEnd := none }
  s

/-- The memory fault at a channel: coils off, no report (R150). A hit that it cuts writes no measures (log entry 69). -/
def State.doorFault (s : State) (g : Gate) : State :=
  let d := s.door g
  let s := s.setDoor g { d with freeEnd := none, freePending := false }
  match d.state with
  | .claim | .hit | .hold | .free => s.toClosingOrIdle g
  | .idle | .closing | .outOfService => s

/-- Supervision begins: the contact is to be taken as it stands after 20 steady samples (R129). -/
def Door.beginSupervision (d : Door) : Door := { d with settling := true, rawRun := 0 }

/-- A channel that ceases to be equipped (R128). -/
def Door.unequip (d : Door) : Door :=
  { d with state := .idle, served := none, overcurrentHold := false, openLoadHold := false, passRun := 0,
           forcedUnresolved := false, heldUnresolved := false, heldRaised := false, freeEnd := none, freePending := false,
           heldTimer := none, openTimer := none, settling := false, rawRun := 0 }

/-- The contact field held CLOSED in passage mode TIMED, with both conditions cleared (R129); a CLOSING channel, whose
contact will send no closing, becomes IDLE (log entry 18). -/
def Door.takeTimed (d : Door) : Door :=
  { d with contact := .closed, forcedUnresolved := false, heldUnresolved := false, heldRaised := false, heldTimer := none,
           settling := false, rawRun := 0, state := if d.state = .closing then .idle else d.state }

/-- The parameters and the equipped field taken from a gate entry (R128, R129, R149); a channel whose contact is already
supervised goes on with it as it stands (log entry 55). -/
def Door.takeParams (d : Door) (e : GateEntry) : Door :=
  let supervisedBefore := d.supervised
  let d' := { d with params := some e.params, equipped := e.equipped }
  if !e.equipped then d'.unequip
  else if e.params.mode = .timed then d'.takeTimed
  else if supervisedBefore then d'
  else d'.beginSupervision

end Sys2Proof.Machine
end

