-- ==== Sys2Proof/Machine/Sequencer.lean ====
section
/-! DEFINITION. The operations of the bell sequencer (R159–R173): patterns, selection, free sends, cuts. -/

namespace Sys2Proof.Machine

/-- The places of a pattern queue (R161). -/
def patternPlaces : Nat := 4

/-- The oldest instance becomes the head and the line enters DELAY, or with no instance the line is IDLE (R165, R167). -/
def Line.takeHead (l : Line) : Line := match l.queue with
  | [] => { l with state := .idle, pulsesDone := 0, granted := false, cut := false }
  | _ :: _ => { l with state := .delay, pulsesDone := 0, granted := false, cut := false }

/-- An instance appended at the tail; on an IDLE line it becomes the head at once (R163, R169). -/
def Line.append (l : Line) (p : Pattern) : Line :=
  let l' := { l with queue := l.queue ++ [p] }
  if l.state = .idle then l'.takeHead else l'

/-- The line as LOW, a refusal or a memory fault leaves it: off, its queue empty (R171, R172). -/
def Line.emptied (l : Line) : Line :=
  { l with state := .idle, queue := [], pulsesDone := 0, granted := false, cut := false, releaseAt := none }

/-- A BELL_NOTICE with the current stamp (R173). -/
def State.bellNoticeAt (s : State) (c : BellCause) (lineOrGate entry : Option Nat) (value : Nat) : State :=
  s.notice (bellNotice s.time.stamp c lineOrGate entry value)

/-- An instance appended to a line's queue, or a QUEUE_FULL notice (R163, R169). -/
def State.appendPattern (s : State) (n : LineNo) (p : Pattern) : State :=
  if patternPlaces ≤ (s.line n).queue.length then s.bellNoticeAt .queueFull (some n.val) p.entry 0
  else s.setLine n ((s.line n).append p)

/-- Pulses as taken at use: 0 is taken as 1 (R159, R169). -/
def pulsesUsed (n : Nat) : Nat := if n = 0 then 1 else n

/-- A bell entry's free request sent to its gate; a refusal makes a FREE_REFUSED notice (R164). -/
def State.sendFree (s : State) (g : Gate) (endMinute entry : Nat) : State := match s.freeRefusal g with
  | some r => s.bellNoticeAt .freeRefused (some g.val) (some entry) r.code
  | none => s.takeFreeRequest g endMinute

/-- Two pending sends of a gate merged: the earlier time, the later end minute (R164). -/
def FreeSend.merge (now : Nat) (held new : FreeSend) : FreeSend :=
  let keepHeld := tickReached new.sendTime held.sendTime
  { sendTime := if keepHeld then held.sendTime else new.sendTime, endMinute := laterMinute now held.endMinute new.endMinute,
    entry := if keepHeld then held.entry else new.entry }

/-- A selected entry's free part for one gate: sent at once when due, else held as the gate's pending free send (R164). -/
def State.freePart (s : State) (g : Gate) (f : FreeSend) : State :=
  if tickReached s.time.absTick f.sendTime then s.sendFree g f.endMinute f.entry
  else s.setFreeSend g (some (match s.freeSend g with
    | none => f
    | some h => h.merge s.time.absMinute f))

/-- The due time of an entry selected at minute `m`: second start delay of that minute, tick 0 (R163). -/
def BellEntry.due (e : BellEntry) (m : Nat) : Nat := (m * 60 + e.startDelay) * 20

/-- A selected entry: its lines in ascending order, then its free gates, in ascending order
too (R162–R164, log entry 70). While the supply is LOW every selected entry
makes its notice, one without lines and without a free window too (log entry 62). -/
def State.takeEntry (s : State) (i : Nat) (e : BellEntry) (m : Nat) : State :=
  if s.supply.state = .low then s.bellNoticeAt .supply none (some i) e.lineMask
  else
    let p : Pattern := { entry := some i, pulses := pulsesUsed e.pulses, onTime := e.onTime, gap := e.gap, due := some (e.due m) }
    let s := eachLine (fun n s => if maskBit e.lineMask n.val then s.appendPattern n p else s) s
    if e.freeWindow = 0 then s
    else eachGate (fun g s => if maskBit e.freeMask g.val then
        s.freePart g { sendTime := e.due m, endMinute := (m + e.freeWindow) % minuteCycle, entry := i } else s) s

/-- The first entry whose minute is equal to or greater than the minute sought, by binary search between two bounds (R162). The
probes decide which entries placed out of order are missed (log entry 63). -/
def firstAtLeast (m : Memory) (base minute : Nat) : Nat → Nat → Nat → Nat
  | 0, lo, _ => lo
  | fuel + 1, lo, hi =>
    if lo < hi then
      let mid := (lo + hi) / 2
      if (BellEntry.read m base mid).minute < minute then firstAtLeast m base minute fuel (mid + 1) hi
      else firstAtLeast m base minute fuel lo mid
    else lo

/-- The entries from index `i` on, while their minute is the one sought (R162). -/
def State.selectFrom (t : Table) (minuteOfDay dow m : Nat) : Nat → Nat → State → State
  | 0, _, s => s
  | fuel + 1, i, s =>
    let e := BellEntry.read s.mem t.base i
    if i < t.count ∧ e.minute = minuteOfDay then
      let s :=
        if !e.valid then s.bellNoticeAt .entryInvalid none (some i) 0
        else if maskBit e.dayMask dow then s.takeEntry i e m
        else s
      State.selectFrom t minuteOfDay dow m fuel (i + 1) s
    else s

/-- The selection of a minute from the current table (R162). -/
def State.select (s : State) (minuteOfDay dow m : Nat) : State := match s.bells.current with
  | none => s
  | some t => State.selectFrom t minuteOfDay dow m t.count (firstAtLeast s.mem t.base minuteOfDay t.count 0 t.count) s

/-- A pending table becomes current, first within the boundary's event (R160). -/
def State.switchBellTable (s : State) : State := match s.bells.pendingTable with
  | none => s
  | some t => s.withBells { s.bells with current := some t, pendingTable := none }

/-- A minute boundary at the bell sequencer (R160, R162, R168). -/
def State.bellBoundary (s : State) (minuteOfDay dow m : Nat) : State :=
  let s := s.switchBellTable
  if s.control.runState = .running then
    match s.bells.silenceEnd with
    | none => s.select minuteOfDay dow m
    | some e =>
      if minuteBehind m e then s
      else (s.withBells { s.bells with silenceEnd := none }).select minuteOfDay dow m
  else s

/-- The LOW event, or a refused claim, at a line (R171). -/
def State.lineLow (s : State) (n : LineNo) : State :=
  let l := s.line n
  let s := (s.setLine n l.emptied).withdrawClaim (.line n)
  match l.queue with
  | [] => s
  | h :: t => s.bellNoticeAt .supply (some n.val) h.entry (t.length + 1)

/-- The cut of SILENCE BELLS at a line (R168). -/
def State.cutLine (s : State) (n : LineNo) : State :=
  let l := s.line n
  let headOnly := { l with queue := l.queue.take 1 }
  match l.state with
  | .idle => s
  | .delay => s.setLine n { l with state := .idle, queue := [], pulsesDone := 0, cut := false }
  | .claim =>
    (s.setLine n { l with state := .idle, queue := [], pulsesDone := 0, granted := false, cut := false }).withdrawClaim (.line n)
  | .on => s.setLine n { headOnly with cut := true }
  | .gap => s.setLine n { headOnly with state := .settle, phaseEnds := s.time.osc + ticksPerSecond }
  | .settle => s.setLine n headOnly

/-- Entry to STOPPING at a line (R172). -/
def Line.stop (l : Line) : Line := match l.state with
  | .delay => { l with state := .idle, queue := [], pulsesDone := 0, cut := false }
  | .idle | .claim | .on | .gap | .settle => { l with queue := l.queue.take 1 }

end Sys2Proof.Machine
end

