-- ==== Sys2Proof/Machine/Polling.lean ====
section
/-! DEFINITION. The operations of the link controller (R16–R33): the position map, polls, the check byte, the judgement of a
response, indications and reports. -/

namespace Sys2Proof.Machine

/-- The position of an address on a link: link × 4 + address (R201). -/
def positionOf (k : LinkNo) (a : Fin 4) : Fin 16 := ⟨k.val * 4 + a.val, by omega⟩

/-! ### The check byte (R21) -/

/-- One bit of a byte, most significant first, into the 8-bit register (R21 steps 3, 4). -/
def crcBit (r : Byte) (b : Bool) : Byte := if b = r.msb then r <<< 1 else (r <<< 1) ^^^ 0x4D#8

/-- The bits of a byte, most significant first. -/
def msbFirst (b : Byte) : List Bool := [7, 6, 5, 4, 3, 2, 1, 0].map b.getLsbD

/-- The check byte over the covered bytes, the register set to 0FFh (R21). -/
def checkByte (covered : List Byte) : Byte := (covered.flatMap msbFirst).foldl crcBit 0xFF#8

/-! ### The position map (R17) -/

/-- The gate and role of a position in the gate table: of a table that names a position twice the lowest gate, its entry reader
first, each field taken as link × 4 + address (log entry 37). -/
def placeOf (m : Memory) (base : Nat) (p : Fin 16) : Option (Gate × Role) :=
  gates.findSome? fun g =>
    let e := GateEntry.read m base g.val
    if e.entry.position = some p.val then some (g, .entry)
    else if e.exit.position = some p.val then some (g, .exit)
    else none

/-- A position treated by whether it was configured before and is configured after (R17). The failure run of a position newly
configured is 0 (log entry 61). -/
def Reader.place (r : Reader) (now : Nat) (place : Option (Gate × Role)) : Reader := match place, r.placed with
  | some _, none =>
    { r with state := .probing, placed := place, failRun := 0, probeDue := now, lastReport := none, indCounter := 0,
             outstanding := none, tamper := false, sensorFault := false }
  | some _, some _ => { r with placed := place }
  | none, some _ => { r with state := .absent, placed := none, outstanding := none, tamper := false, sensorFault := false }
  | none, none => r

/-- The position map formed from the gate table (R17). -/
def State.formMap (s : State) : State := match s.control.gateTable with
  | none => s
  | some base => eachPosition (fun p s => s.setReader p ((s.reader p).place s.time.absTick (placeOf s.mem base p))) s

/-! ### Polls (R18, R19) -/

/-- At its visit a position is polled, or passed over (R18). -/
def Reader.due (r : Reader) (now : Nat) : Bool := match r.state with
  | .online => true
  | .probing | .offline => tickReached now r.probeDue
  | .absent => false

/-- The address the round polls next: the first due one, from the address at which the round resumes (R18). -/
def State.nextPoll (s : State) (k : LinkNo) : Option (Fin 4) :=
  let a := (s.link k).nextAddress
  ([a, a + 1, a + 2, a + 3] : List (Fin 4)).find? fun x => (s.reader (positionOf k x)).due s.time.absTick

def IndCode.code : IndCode → Nat
  | .accept => 1
  | .recorded => 2
  | .deny => 3
  | .wait => 4

/-- The covered bytes of a poll: address, indication, tone, sequence and acknowledgement (R19, 13.10). Without an acknowledgement
its four sequence bits are 0 (log entry 38). -/
def Reader.pollBytes (r : Reader) (a : Fin 4) : List Byte :=
  let ind := match r.outstanding with
    | none => (0, 0)
    | some i => (i.code.code, if i.code = IndCode.deny then i.tone else 0)
  let ack := match r.lastReport with
    | none => 0
    | some x => 16 + x % 16
  [BitVec.ofNat 8 a.val, BitVec.ofNat 8 ind.1, BitVec.ofNat 8 (ind.2 % 16), BitVec.ofNat 8 (r.indCounter % 4 * 64 + ack)]

/-- The poll frame (R16, R19, 13.10). -/
def Reader.pollFrame (r : Reader) (a : Fin 4) : List Byte :=
  0xC5#8 :: (r.pollBytes a ++ [checkByte (r.pollBytes a)])

/-- A PROBING or OFFLINE position polled is due again one second after the start of the poll (R18). -/
def Reader.afterPoll (r : Reader) (now : Nat) : Reader := match r.state with
  | .probing | .offline => { r with probeDue := (now + ticksPerSecond) % tickCycle }
  | .online | .absent => r

/-! ### Indications (R27, R28) -/

/-- An indication requested for a position: outstanding with the next sequence if it is ONLINE, else dropped (R27). -/
def Reader.indicate (r : Reader) (i : Indication) : Reader :=
  if r.state = .online then { r with indCounter := (r.indCounter + 1) % 4, outstanding := some i } else r

def State.indicate (s : State) (p : Fin 16) (code : IndCode) (tone : Nat) : State :=
  s.setReader p ((s.reader p).indicate { code := code, tone := tone })

/-! ### Failed exchanges (R22, R24) -/

/-- How an exchange fails (R22). -/
inductive ExchangeFailure where
  | checkError
  | noResponse
  | frameError
  deriving DecidableEq, Repr

/-- The code of a failure in a READER_NOTICE of cause OFFLINE (13.7). -/
def ExchangeFailure.code : ExchangeFailure → Nat
  | .checkError => 1
  | .noResponse => 2
  | .frameError => 3

/-- The count of its kind goes up by 1 (R22). -/
def Reader.countFailure (r : Reader) : ExchangeFailure → Reader
  | .checkError => { r with checkErrors := bump r.checkErrors }
  | .noResponse => { r with noResponses := bump r.noResponses }
  | .frameError => { r with frameErrors := bump r.frameErrors }

/-- The failures in a row that take a position OFFLINE (R24). -/
def offlineRun : Nat := 5

/-- A READER_NOTICE with the current stamp (R32). -/
def State.readerNoticeAt (s : State) (p : Fin 16) (c : ReaderCause) : State := s.notice (readerNotice s.time.stamp p c)

/-- A failed exchange with a position (R22, R24). -/
def State.exchangeFails (s : State) (p : Fin 16) (f : ExchangeFailure) : State :=
  let r := (s.reader p).countFailure f
  if r.state = .online then
    if r.failRun + 1 < offlineRun then s.setReader p { r with failRun := r.failRun + 1 }
    else
      let r := { r with state := .offline, failRun := 0, outstanding := none,
                        probeDue := (s.time.absTick + ticksPerSecond) % tickCycle }
      ((s.setReader p r).readerNoticeAt p (.offline f.code)).latch .setReader
  else s.setReader p r

/-! ### Good responses (R25, R26, R28–R31) -/

/-- The fields of a good response (13.10). -/
structure Response where
  tamper : Bool
  sensorFault : Bool
  echo : Nat
  report : Option (Nat × Nat × Nat)
  deriving DecidableEq, Repr

/-- The fields read from the ten bytes of a frame; the report, when present, is its sequence, badge and age (13.10). -/
def Response.ofBytes (b : List Byte) : Response :=
  let n (i : Nat) : Nat := (b.getD i 0).toNat
  { tamper := n 2 % 2 == 1, sensorFault := n 2 / 2 % 2 == 1, echo := n 3 / 64,
    report :=
      if n 3 / 16 % 2 = 1 then some (n 3 % 16, ((n 4 * 256 + n 5) * 256 + n 6) * 256 + n 7, n 8) else none }

/-- The judgement of a response frame (R22): a failure, or the fields of a good response. The whole address byte counts
(log entry 39). -/
def judgeFrame (address : Fin 4) (bytes : List Byte) (stopBits : Bool) : ExchangeFailure ⊕ Response :=
  if bytes.length ≠ 10 ∨ stopBits = false ∨ bytes.getD 0 0 ≠ 0xC5#8 then .inl .frameError
  else if bytes.getD 9 0 ≠ checkByte ((bytes.drop 1).take 8) then .inl .checkError
  else if (bytes.getD 1 0).toNat ≠ address.val then .inl .frameError
  else .inr (Response.ofBytes bytes)

/-- A good response makes a PROBING or OFFLINE position ONLINE (R25). -/
def State.comeOnline (s : State) (p : Fin 16) (echo : Nat) : State :=
  let r := s.reader p
  if r.state = .probing ∨ r.state = .offline then
    (s.setReader p { r with state := .online, lastReport := none, indCounter := echo, outstanding := none }).readerNoticeAt p
      (.online (if r.state = .probing then 1 else 2))
  else s

/-- A rising status flag: a notice, and READER latched (R26). -/
def State.flagRises (s : State) (p : Fin 16) (rises : Bool) (c : ReaderCause) : State :=
  if rises then (s.readerNoticeAt p c).latch .setReader else s

/-- The status flags of a good response, TAMPER first (R26). -/
def State.takeStatus (s : State) (p : Fin 16) (x : Response) : State :=
  let r := s.reader p
  let s := s.setReader p { r with tamper := x.tamper, sensorFault := x.sensorFault }
  (s.flagRises p (x.tamper && !r.tamper) .tamper).flagRises p (x.sensorFault && !r.sensorFault) .sensorFault

/-- The echo delivers the outstanding indication when it names its sequence (R28). -/
def Reader.takeEcho (r : Reader) (echo : Nat) : Reader :=
  if r.outstanding.isSome ∧ r.indCounter = echo then { r with outstanding := none } else r

/-- Reports aged 100 units or more are STALE (R30). -/
def staleAge : Nat := 100

/-- A report in a good response from an ONLINE position: a repeat, or new; a new one is STALE or handed over as a presentation
(R29–R31). -/
def State.takeReport (s : State) (p : Fin 16) (x : Response) : State := match x.report with
  | none => s
  | some (seq, badge, age) =>
    let r := s.reader p
    if r.state ≠ .online ∨ r.lastReport = some seq then s
    else
      let s := s.setReader p { r with lastReport := some seq }
      if staleAge ≤ age then
        (s.setReader p { s.reader p with stales := bump r.stales }).indicate p .wait 0
      else match r.placed with
        | none => s
        | some (g, role) =>
          s.withEngine { s.engine with handed := s.engine.handed ++
            [{ position := p, gate := g, role := role, badge := badge, stamp := s.time.reportStamp age }] }

/-- A good response taken: state, flags, echo, report, in that order (R22). -/
def State.goodResponse (s : State) (p : Fin 16) (x : Response) : State :=
  let s := s.setReader p { s.reader p with failRun := 0 }
  let s := (s.comeOnline p x.echo).takeStatus p x
  (s.setReader p ((s.reader p).takeEcho x.echo)).takeReport p x

end Sys2Proof.Machine
end

