-- ==== Sys2Proof/Machine/Boundary.lean ====
section
/-! DEFINITION. The operations of the time base (R1–R15): the advance of the counts, minute boundaries, the judgement and
application of marks, time notices. -/

namespace Sys2Proof.Machine

/-! ### Minute boundaries (R11, R119) -/

/-- A minute boundary at the closing sweep, taken in RUNNING only (R119). -/
def State.sweepBoundary (s : State) : State :=
  if s.control.runState = .running then
    match s.engine.sweep, s.engine.install with
    | .idle, .idle | .idle, .verify _ _ => s.withEngine { s.engine with sweep := .running, sweepCursor := 0 }
    | _, _ => s.withEngine { s.engine with sweepPending := true }
  else s

/-- The day of week of an absolute minute that is raised, from the counts it is raised beside (R11, R62). -/
def TimeBase.dowOfMinute (t : TimeBase) (m : Nat) : Nat :=
  (((t.dow : Int) - signedDiff dayCycle t.day (m / 1440)) % 7).toNat

/-- A minute boundary handed to the bell sequencer, the attendance engine and the door drive, and LM set to it
(R8, R9, R11, log entry 13). -/
def State.raiseBoundary (s : State) (m : Nat) : State :=
  let s := s.withTime { s.time with lm := some m }
  let s := s.bellBoundary (m % 1440) (s.time.dowOfMinute m) m
  eachGate (fun g s => s.doorBoundary m g) s.sweepBoundary

/-! ### The advance of the counts (R1, R9, R10) -/

/-- The tick and second counts with 50 ms more, when the second does not pass 59 (R1). -/
def TimeBase.advance (t : TimeBase) : TimeBase :=
  if t.tick < 19 then { t with tick := t.tick + 1, osc := t.osc + 1 }
  else { t with tick := 0, second := t.second + 1, osc := t.osc + 1 }

/-- The 50 ms at which the second passes 59 (R1). -/
def TimeBase.rollDue (t : TimeBase) : Bool := t.tick == 19 && t.second == 59

/-- The counts with the minute advanced (R1). -/
def TimeBase.rollMinute (t : TimeBase) : TimeBase :=
  let t := { t with tick := 0, second := 0, osc := t.osc + 1 }
  if t.minute < 1439 then { t with minute := t.minute + 1 }
  else { t with minute := 0, day := (t.day + 1) % dayCycle, dow := (t.dow + 1) % 7 }

/-- Minute rolls without an accepted mark after which the master clock is taken as lost (R10). -/
def silenceLimit : Nat := 3

/-- The silence count stepped by a roll in LOCKED or RESYNC; at 3 the clock becomes FREE (R9, R10). -/
def State.stepSilence (s : State) : State :=
  let t := s.time
  if t.clock = .locked ∨ t.clock = .resync then
    if t.silence + 1 < silenceLimit then s.withTime { t with silence := t.silence + 1 }
    else
      ((s.withTime { t with silence := silenceLimit, clock := .free, candidate := none }).notice
        (freeRunNotice t.lastMark (t.clock == .resync))).latch .setTime
  else s

/-- A local minute roll (R1, R9, R10). -/
def State.minuteRoll (s : State) : State :=
  let s := s.withTime s.time.rollMinute
  if s.time.clock = .unset then s
  else
    let n := s.time.absMinute
    (if lmBehind s.time.lm n then s.raiseBoundary n else s).stepSilence

/-! ### Marks (R3–R8) -/

/-- The mark that follows (01, before R3). -/
def ClockMark.next (x : ClockMark) : ClockMark :=
  if x.minute = 1439 then { minute := 0, dow := if x.dow = 6 then 0 else x.dow + 1 } else { x with minute := x.minute + 1 }

/-- The local minute of day and day of week (R5). -/
def TimeBase.localMark (t : TimeBase) : ClockMark := { minute := t.minute, dow := t.dow }

/-- The four bytes checked: the sum modulo 256 is 0 and both values are in range (R3). -/
def checkedMark (hi lo dow check : Byte) : Option ClockMark :=
  let m := hi.toNat * 256 + lo.toNat
  if (hi + lo + dow + check = 0#8) ∧ m ≤ 1439 ∧ dow.toNat ≤ 6 then some { minute := m, dow := dow.toNat } else none

/-- What is to be done with a checked mark (R2, R4, R5, R6). -/
inductive MarkVerdict where
  | ignored
  | candidate
  | accepted (resync : Bool)
  deriving DecidableEq, Repr

/-- The judgement of a checked mark by the clock state (R2, R4, R5, R6). -/
def TimeBase.judgeMark (t : TimeBase) (x : ClockMark) : MarkVerdict :=
  let l := t.localMark
  match t.clock with
  | .unset => .ignored
  | .locked =>
    if t.lastMark.map ClockMark.next = some x then .accepted false
    else if t.lastMark = some x then .ignored
    else .candidate
  | .free => if x = l ∨ x = l.next then .accepted false else .candidate
  | .resync =>
    if t.candidate.map ClockMark.next = some x then .accepted true
    else if t.candidate = some x then .ignored
    else if x = l ∨ x = l.next then .accepted false
    else .candidate

/-- A mark held as the candidate: RESYNC, with the silence count set to 0 when it is entered from FREE (R4, R5, R6). -/
def TimeBase.holdCandidate (t : TimeBase) (x : ClockMark) : TimeBase :=
  { t with clock := .resync, candidate := some x, silence := if t.clock = .free then 0 else t.silence }

/-- The implied absolute minute of a mark (R7). -/
def TimeBase.impliedMinute (t : TimeBase) (x : ClockMark) : Nat :=
  let delta := signedDiff 10080 (x.dow * 1440 + x.minute) (t.dow * 1440 + t.minute)
  (((t.absMinute : Int) + delta) % minuteCycle).toNat

/-- The local absolute time less M:00.0, in ticks, on the cycle (R7). -/
def TimeBase.ticksPast (t : TimeBase) (m : Nat) : Int := signedDiff tickCycle t.absTick (m * 1200)

/-- A difference from −100 to +100 ticks is a trim (R7). -/
def isTrim (d : Int) : Bool := decide (-100 ≤ d ∧ d ≤ 100)

/-- The offset of a step: −d in whole seconds, truncated toward zero, held to −32767 to +32767 (R7). -/
def stepOffset (d : Int) : Int := max (-32767) (min 32767 ((-d).tdiv 20))

/-- The counts and the state written by an accepted mark (R7). -/
def TimeBase.applyMark (t : TimeBase) (x : ClockMark) (m : Nat) : TimeBase :=
  { t with tick := 0, second := 0, minute := x.minute, day := m / 1440, dow := x.dow, lastMark := some x, candidate := none,
           silence := 0, clock := .locked }

/-- An absolute minute `k` minutes before `m`, on the cycle. -/
def minutesBefore (m k : Nat) : Nat := (m + minuteCycle - k) % minuteCycle

/-- The boundaries an application raises, in their order (R8). -/
def catchUp (lm : Option Nat) (m : Nat) : List Nat := match lm with
  | none => [m]
  | some l =>
    if !minuteBehind l m then []
    else
      let gap := ahead minuteCycle l m
      if gap = 2 then [minutesBefore m 1, m]
      else if gap = 3 then [minutesBefore m 2, minutesBefore m 1, m]
      else [m]

/-- The skipped minutes of an application (R8). -/
def skippedMinutes (lm : Option Nat) (m : Nat) : Nat := match lm with
  | none => 0
  | some l =>
    let gap := ahead minuteCycle l m
    if minuteBehind l m && decide (4 ≤ gap) then min countMax (gap - 1) else 0

/-- The held-back minutes of an application (R8). -/
def heldBackMinutes (lm : Option Nat) (m : Nat) : Nat := match lm with
  | none => 0
  | some l => if minuteBehind l m then 0 else min countMax (ahead minuteCycle m l)

/-- The cause of the notice an application makes, if it makes one (R7, R8, R15). -/
def applyCause (resync trim : Bool) (skipped held : Nat) : Option TimeCause :=
  if resync then some .resync
  else if !trim then some .step
  else if 0 < skipped ∨ 0 < held then some .skip
  else none

/-- An accepted mark applied: counts, boundaries, notice (R7, R8, R15). R7 gives an offset to a step only, so the RESYNC notice of
a trim carries 0 (log entry 36). The boundaries, with the BELL_NOTICEs they make, come before the notice (log entry 49). -/
def State.applyMark (s : State) (x : ClockMark) (resync : Bool) : State :=
  let t := s.time
  let m := t.impliedMinute x
  let d := t.ticksPast m
  let skipped := skippedMinutes t.lm m
  let held := heldBackMinutes t.lm m
  let s := (catchUp t.lm m).foldl State.raiseBoundary (s.withTime (t.applyMark x m))
  match applyCause resync (isTrim d) skipped held with
  | none => s
  | some c =>
    s.notice (timeNotice c (some t.absMinute) m (if c = .skip ∨ isTrim d then 0 else stepOffset d) skipped held)

/-- A mark on the master clock line (R3–R8). -/
def State.takeMark (s : State) (hi lo dow check : Byte) : State := match checkedMark hi lo dow check with
  | none => s.withTime { s.time with markErrors := bump s.time.markErrors }
  | some x =>
    match s.time.judgeMark x with
    | .ignored => s
    | .candidate => s.withTime (s.time.holdCandidate x)
    | .accepted resync => s.applyMark x resync

/-! ### SET TIME (R14) -/

/-- The values of SET TIME are in their ranges (R14). -/
def setTimeValid (day minute second dow : Nat) : Bool := decide (day ≤ 65534 ∧ minute ≤ 1439 ∧ second ≤ 59 ∧ dow ≤ 6)

/-- The counts and the state written by SET TIME (R14). -/
def TimeBase.set (t : TimeBase) (day minute second dow : Nat) : TimeBase :=
  { t with tick := 0, second := second, minute := minute, day := day, dow := dow, clock := .free, lm := none, lastMark := none,
           candidate := none, silence := 0 }

/-- The time set, with its SET notice (R14, R15). -/
def State.setClock (s : State) (day minute second dow : Nat) : State :=
  let old := if s.time.clock = .unset then none else some s.time.absMinute
  let s := s.withTime (s.time.set day minute second dow)
  s.notice (timeNotice .set old s.time.absMinute 0 0 0)

end Sys2Proof.Machine
end

