-- ==== Sys2Proof/Machine/Calendar.lean ====
section
/-! DEFINITION. Shift instances, and the pay stages as functions of their inputs (R54–R65, R89–R103). -/

namespace Sys2Proof.Machine

/-! ### Finding a shift instance (R55, R61–R64) -/

/-- A shift instance found for an IN: its day, its start minute of day, its length, and the grace in of its entry. -/
structure Found where
  day : Nat
  start : Nat
  length : Nat
  graceIn : Nat
  deriving DecidableEq, Repr

/-- The absolute minute `t` lies in the window of entry `e` on day `d`: from 0 to early limit + length past S − early limit,
on the cycle, both ends included (R55). -/
def DayEntry.covers (e : DayEntry) (d t : Nat) : Bool :=
  decide (ahead minuteCycle ((d * 1440 + e.start + minuteCycle - e.early) % minuteCycle) t ≤ e.early + e.length)

/-- The instance on day `d` whose window holds minute `t`. An entry that fails its check is taken as length 0 (R55, R61). -/
def DayEntry.instanceAt (e : DayEntry) (d t : Nat) : Option Found :=
  if e.valid && decide (0 < e.length) && e.covers d t then
    some { day := d, start := e.start, length := e.length, graceIn := e.graceIn }
  else none

/-- The day entry of a group for the day of week of a day (R53, R62). -/
def State.dayEntry (s : State) (group d : Nat) : Option DayEntry :=
  match s.engine.shift, s.time.dowOf d with
  | some base, some w => some (DayEntry.read s.mem base (group * 7 + w))
  | _, _ => none

/-- The finding for a stamp and a shift group: today's instance before yesterday's (R63). -/
def State.finding (s : State) (group : Nat) (stamp : Option Stamp) : Option Found := match stamp with
  | none => none
  | some x =>
    let t := x.abs / 60
    let on (d : Nat) : Option Found := (s.dayEntry group d).bind fun e => e.instanceAt d t
    match on x.day with
    | some f => some f
    | none => on (dayBefore x.day)

/-- LATE: the in stamp is later than the start plus grace in, in absolute seconds (R64), taken on the cycle of the days (log
entry 51). -/
def Found.isLate (f : Found) (x : Stamp) : Bool :=
  decide (0 < signedDiff secondCycle x.abs (f.day * 86400 + f.start * 60 + f.graceIn * 60))

/-- The open-in captured at the commit of an IN (R64, R83). -/
def captureOpenIn (stamp : Option Stamp) (gate : Nat) (f : Option Found) : OpenIn := match stamp, f with
  | some x, some f => { stamp := stamp, gate := gate, start := some (f.day, f.start), length := f.length, late := f.isLate x,
                        offShift := false }
  | _, _ => { stamp := stamp, gate := gate, start := none, length := 0, late := false, offShift := true }

/-- What a close and a sweep read of the day entry of a captured instance (R61, R65). -/
structure Limits where
  graceIn : Nat
  graceOut : Nat
  late : Nat
  entryInvalid : Bool
  deriving DecidableEq, Repr

/-- The limits of a close; an entry that fails its check gives 0 and ENTRY_INVALID (R61, R65, R90). An off-shift pair reads
no entry, and in UNSET none is read. -/
def State.closeLimits (s : State) (group : Nat) (start : Option (Nat × Nat)) : Limits :=
  match start.bind fun x => s.dayEntry group x.1 with
  | none => { graceIn := 0, graceOut := 0, late := 0, entryInvalid := false }
  | some e =>
    if e.valid then { graceIn := e.graceIn, graceOut := e.graceOut, late := e.late, entryInvalid := false }
    else { graceIn := 0, graceOut := 0, late := 0, entryInvalid := true }

/-- The auto-close delay in minutes; 0 for an entry that fails its check (R61, R65, R121). An entry that now has length 0 gives its
delay, as R65 has it give its limits (log entry 41). -/
def State.autoCloseDelay (s : State) (group day : Nat) : Nat := match s.dayEntry group day with
  | none => 0
  | some e => if e.valid then e.autoClose else 0

/-- The pay rule of a worker, as it stands (R65, R90). -/
def State.payRule (s : State) (rule : Nat) : Option PayRule :=
  (s.engine.shift.map fun base => PayRule.read s.mem base rule).bind fun r => if r.valid then some r else none

/-! ### The stages of a pair (R92–R103) -/

/-- The offset of a time on the line of the base day B, the day before the in stamp's day (R92). -/
def unroll (inDay : Nat) (abs : Nat) : Int := signedDiff secondCycle abs (dayBefore inDay * 86400)

/-- The in stamp snapped to the shift start (R93). -/
def snapIn (ti start grace : Int) (early : Bool) : Int :=
  if ti < start then (if early then ti else start) else if ti ≤ start + grace then start else ti

/-- The out stamp snapped to the shift end (R94). -/
def snapOut (tOut stop grace late : Int) : Int := if stop - grace ≤ tOut ∧ tOut ≤ stop + late then stop else tOut

/-- Down to the previous multiple of q, and up to the next (R95). -/
def roundDown (x q : Int) : Int := x - x % q
def roundUp (x q : Int) : Int := if x % q = 0 then x else x - x % q + q

/-- The in time rounded by the mode: 0 STRICT, 1 NEAREST, 2 LENIENT; a remainder of exactly half goes down (R95). -/
def roundIn (mode : Nat) (x q : Int) : Int :=
  if mode = 0 then roundUp x q
  else if mode = 2 then roundDown x q
  else if 2 * (x % q) ≤ q then roundDown x q else roundUp x q

/-- The out time rounded by the mode; a remainder of exactly half goes up (R95). -/
def roundOut (mode : Nat) (x q : Int) : Int :=
  if mode = 0 then roundDown x q
  else if mode = 2 then roundUp x q
  else if 2 * (x % q) < q then roundDown x q else roundUp x q

/-- The longest span, 57,600 s (R96). -/
def spanLimit : Int := 57600

/-- The overlap of two half-open intervals, in minutes (R99). -/
def overlap (a b c d : Int) : Nat := (min b d - max a c).toNat

/-- The night window of day index `d`, in minutes on the line (R98). -/
def nightWindow (n1 n2 : Nat) (d : Int) : Int × Int :=
  (d * 1440 + n1, if n1 < n2 then d * 1440 + n2 else (d + 1) * 1440 + n2)

/-- The sum of the overlaps of the paid interval with the night windows, from the day before the in day (R99). A paid span
of at most 960 minutes meets at most the four windows taken here. -/
def nightSum (n1 n2 : Nat) (a b : Int) : Nat :=
  let d0 := a / 1440 - 1
  ([0, 1, 2, 3] : List Int).foldl (fun acc k => acc + overlap a b (nightWindow n1 n2 (d0 + k)).1 (nightWindow n1 n2 (d0 + k)).2) 0

/-- The results of the stages (R89). -/
structure StageResult where
  mreg : Nat
  mot : Nat
  mn : Nat
  amount : Nat
  shiftDay : Nat
  breakTaken : Bool
  zeroSpan : Bool
  overLimit : Bool
  deriving DecidableEq, Repr

/-- The unscaled amount (R102). -/
def rawAmount (rate factor premium mreg mot mn : Nat) : Nat := 8 * rate * mreg + factor * rate * mot + 8 * premium * mn

/-- The amount rounded once (R103). -/
def roundAmount (halfUp : Bool) (raw : Nat) : Nat := if halfUp then (raw + 240) / 480 else raw / 480

/-- The stages from the unrolled times on: snap, round, span, break, night, band, amount (R93–R103). `shift` is S and E, for
an instance pair; `rdFor` gives Rd′ for a shift day. -/
def runStages (r : PayRule) (lim : Limits) (early : Bool) (rate : Nat) (inDay : Nat) (ti tOut : Int) (shift : Option (Int × Int))
    (instanceDay : Option Nat) (rdFor : Nat → Nat) : StageResult :=
  let q : Int := 60 * r.q
  let ti1 := match shift with
    | none => ti
    | some x => snapIn ti x.1 (60 * lim.graceIn) early
  let to1 := match shift with
    | none => tOut
    | some x => snapOut tOut x.2 (60 * lim.graceOut) (60 * lim.late)
  let ti2 := roundIn r.mode ti1 q
  let to2 := roundOut r.mode to1 q
  let span := to2 - ti2
  let w := if span < 0 then 0 else if spanLimit < span then spanLimit else span
  let m0 := (w / 60).toNat
  let breakTaken := decide (0 < r.breakAt ∧ r.breakAt ≤ m0)
  let m := if breakTaken then m0 - r.breakLen else m0
  let mn := if r.nightStart = r.nightEnd then 0
    else min (nightSum r.nightStart r.nightEnd (ti2 / 60) (ti2 / 60 + w / 60)) m
  let day := match instanceDay with
    | some d => d
    | none => ((dayBefore inDay : Int) + ti2 / 86400).toNat % dayCycle
  let mreg := if shift.isNone && r.offShiftAsOt then 0 else min m (r.cap - rdFor day)
  let mot := m - mreg
  { mreg := mreg, mot := mot, mn := mn, amount := roundAmount r.halfUp (rawAmount rate r.factor r.premium mreg mot mn),
    shiftDay := day, breakTaken := breakTaken, zeroSpan := decide (span < 0), overLimit := decide (spanLimit < span) }

/-- The stages for a pair of defined stamps, with the instance captured at its IN (R92–R103). A pair without a shift start is an
off-shift pair, whatever its OFF_SHIFT flag (log entry 42). -/
def pairStages (r : PayRule) (lim : Limits) (w : Worker) (o : OpenIn) (tin tout : Stamp) : StageResult :=
  let u := unroll tin.day
  let shift := o.start.map fun x =>
    let start := u (x.1 * 86400 + x.2 * 60)
    (start, start + 60 * (o.length : Int))
  runStages r lim w.early w.rate tin.day (u tin.abs) (u tout.abs) shift (o.start.map Prod.fst)
    (fun d => if w.rdDay = some d then w.rd else 0)

/-- The end E of a captured instance, as a stamp (R55, R89). -/
def instanceEnd (start : Nat × Nat) (length : Nat) : Stamp :=
  let m := start.2 + length
  { day := (start.1 + m / 1440) % dayCycle, second := m % 1440 * 60 }

end Sys2Proof.Machine
end

