-- ==== Sys2Proof/Machine/Close.lean ====
section
/-! DEFINITION. Closes, credits, exceptions and the commits of punches, each written from a reservation of 12 words
(R82–R87, R89–R91, R104–R117). -/

namespace Sys2Proof.Machine

/-! ### Exceptions (R113) -/

/-- What becomes of a detected class: its disabled handling, that handling with the exception lost for want of a FREE slot,
or an exception taken in a slot (R113). -/
inductive ExcTake where
  | disabled
  | lost
  | slot (i : Nat)
  deriving DecidableEq, Repr

/-- The handling of a class under a rule; under an invalid rule that of the enable clear (R109, R113). -/
def State.excTake (s : State) (rule : Option PayRule) (c : ExcClass) : ExcTake := match rule with
  | none => .disabled
  | some r =>
    if r.enables c then
      match s.engine.exceptions.bind fun t => lowestFree s.mem t with
      | none => .lost
      | some i => .slot i
    else .disabled

def ExcTake.slotNo : ExcTake → Option Nat
  | .slot i => some i
  | .disabled | .lost => none

/-- The flags EXCEPTION and EXCEPTION_LOST (R113). -/
def RecFlags.withTake (f : RecFlags) (t : ExcTake) : RecFlags := match t with
  | .disabled => f
  | .lost => { f with exceptionLost := true }
  | .slot _ => { f with exception := true }

/-- The slot filled, its state PENDING written last; the last-exception section; PAY_EXCEPTION unless the rule is quiet
(R112, R113 steps 1, 4, 5). -/
def State.fillSlot (s : State) (i : Nat) (x : SlotFill) (quiet : Bool) : State := match s.engine.exceptions with
  | none => s
  | some t =>
    let a := slotAddress t i
    let s := (s.storeAll (a + 4) x.words).store a 1
    let s := s.withEngine { s.engine with lastException := { code := some x.code, slot := i, badge := x.badge } }
    if quiet then s else s.latch .setPayException

/-- The slot an event took, if it took one. -/
def State.fillTaken (s : State) (t : ExcTake) (x : SlotFill) (rule : Option PayRule) : State := match t, rule with
  | .slot i, some r => s.fillSlot i x r.quiet
  | _, _ => s

/-- The worker's pending exception count after an exception was, or was not, taken (R113 step 3). A count of 63, which only a
direct host write leaves, is one up in the 6 bits of its field (log entry 53). -/
def Worker.countTake (w : Worker) (t : ExcTake) : Worker := match t with
  | .slot _ => { w with pendingCount := w.pendingCount + 1 }
  | .disabled | .lost => w

/-- A slot's contents with no minutes and no amount (R114–R116). -/
def emptyFill (c : ExcClass) (ref : WorkerRef) (badge : Nat) (tin tout : Option Stamp) (day : Option Nat) : SlotFill :=
  { code := c, index := ref.index, badge := badge, inStamp := tin, outStamp := tout, regular := 0, overtime := 0, night := 0,
    amount := 0, shiftDay := day }

/-! ### Credit (R104, R105, R117) -/

/-- The largest amount total (R104). -/
def amountMax : Nat := 4294967295

/-- The results lie within the ranges of the worker's totals (R104). -/
def Worker.fits (w : Worker) (r : StageResult) : Bool :=
  decide (w.regular + r.mreg ≤ 65535 ∧ w.overtime + r.mot ≤ 65535 ∧ w.night + r.mn ≤ 65535 ∧ w.amount + r.amount ≤ amountMax
    ∧ w.pairs + 1 ≤ 65535)

/-- Rd and its shift day as a credit writes them (R105). -/
def Worker.creditDay (w : Worker) (r : StageResult) : Worker :=
  { w with rd := (if w.rdDay = some r.shiftDay then w.rd else 0) + r.mreg, rdDay := some r.shiftDay }

/-- A credit (R105). -/
def Worker.credit (w : Worker) (r : StageResult) : Worker :=
  { w.creditDay r with regular := w.regular + r.mreg, overtime := w.overtime + r.mot, night := w.night + r.mn,
                       amount := w.amount + r.amount, pairs := w.pairs + 1 }

/-- A saturating credit (R117). -/
def Worker.creditSaturating (w : Worker) (r : StageResult) : Worker :=
  { w.creditDay r with regular := min 65535 (w.regular + r.mreg), overtime := min 65535 (w.overtime + r.mot),
                       night := min 65535 (w.night + r.mn), amount := min amountMax (w.amount + r.amount),
                       pairs := min 65535 (w.pairs + 1), saturated := true }

/-! ### A close (R89–R91, R106–R109, R116, R117) -/

/-- The kind of a close (R89). -/
inductive CloseKind where
  | out
  | auto
  | host
  deriving DecidableEq, Repr

/-- How a close comes out: the values its record carries, the flags, what becomes of an exception class, and the worker
record with its credit. -/
structure ClosePlan where
  mreg : Nat
  mot : Nat
  mn : Nat
  amount : Nat
  flags : RecFlags
  entryInvalid : Bool
  ruleInvalid : Bool
  take : ExcTake
  fill : SlotFill
  worker : Worker
  deriving DecidableEq, Repr

/-- A zero close: results 0, nothing credited (R108). -/
def zeroPlan (w : Worker) (f : RecFlags) (lim : Limits) (ruleInvalid : Bool) (t : ExcTake) (fill : SlotFill) : ClosePlan :=
  { mreg := 0, mot := 0, mn := 0, amount := 0, flags := f, entryInvalid := lim.entryInvalid, ruleInvalid := ruleInvalid,
    take := t, fill := fill, worker := w }

/-- The plan of a close whose stages ran: SPAN_LIMIT first, then the credit and TOTAL_OVERFLOW (R96, R104, R116, R117). -/
def State.stagesPlan (s : State) (w : Worker) (r : PayRule) (lim : Limits) (f : RecFlags) (x : StageResult)
    (fill : ExcClass → SlotFill) : ClosePlan :=
  let f := { f with breakTaken := x.breakTaken, zeroSpan := x.zeroSpan, clamped := x.overLimit }
  let span := if x.overLimit then s.excTake (some r) .spanLimit else .disabled
  let plan (f : RecFlags) (t : ExcTake) (c : ExcClass) (w : Worker) : ClosePlan :=
    { mreg := x.mreg, mot := x.mot, mn := x.mn, amount := x.amount, flags := f.withTake t, entryInvalid := lim.entryInvalid,
      ruleInvalid := false, take := t, fill := fill c, worker := w }
  match span with
  | .slot i => plan f (.slot i) .spanLimit w
  | .disabled | .lost =>
    let f := f.withTake span
    if w.fits x then plan f .disabled .spanLimit (w.credit x)
    else match s.excTake (some r) .totalOverflow with
      | .slot i => plan f (.slot i) .totalOverflow w
      | .lost => plan { f with saturated := true } .lost .totalOverflow (w.creditSaturating x)
      | .disabled => plan { f with saturated := true } .disabled .totalOverflow (w.creditSaturating x)

/-- The plan of a close: its preconditions in order, then the stages (R90, R91, R106). `f` holds the punch's flags. -/
def State.closePlan (s : State) (ref : WorkerRef) (w : Worker) (o : OpenIn) (kind : CloseKind) (out : Option Stamp) (f : RecFlags) :
    ClosePlan :=
  let f := { f with late := o.late, offShift := o.offShift, auto := kind == .auto, host := kind == .host }
  let lim := s.closeLimits w.group o.start
  let none0 := emptyFill .unsetTime ref w.badge o.stamp out (o.start.map Prod.fst)
  match s.payRule w.rule with
  | none => zeroPlan w f lim true .disabled none0
  | some r =>
    if w.noPay then zeroPlan w { f with noPay := true } lim false .disabled none0
    else match o.stamp, out with
      | some tin, some tout =>
        let x := pairStages r lim w o tin tout
        s.stagesPlan w r lim f x fun c =>
          { code := c, index := ref.index, badge := w.badge, inStamp := o.stamp, outStamp := out, regular := x.mreg,
            overtime := x.mot, night := x.mn, amount := x.amount, shiftDay := some x.shiftDay }
      | _, _ =>
        let t := s.excTake (some r) .unsetTime
        zeroPlan w ({ f with unsetTime := true }.withTake t) lim false t none0

/-- A close made within its event: the record from the reservation of 12 words, the exception slot, the worker record, in that
order (R107, R110). `after` sets what the event itself writes: the open-in, presence, the in-flight gate. The slot field of a
record that took no slot is a free value (log entry 5). -/
def State.closePair (s : State) (ref : WorkerRef) (o : OpenIn) (kind : CloseKind) (out : Option Stamp) (gate reader : Nat)
    (f : RecFlags) (after : Worker → Worker) : State :=
  let p := s.closePlan ref (s.worker ref) o kind out f
  let rule := s.payRule (s.worker ref).rule
  let slotField := match p.take.slotNo with
    | some i => (i, s)
    | none => (s.takeFree.1.toNat, s.takeFree.2)
  let s := slotField.2.spend punchWords
    [punchClose p.worker o.stamp out p.mreg p.mot p.mn p.amount gate reader slotField.1 p.flags p.entryInvalid p.ruleInvalid]
  (s.fillTaken p.take p.fill rule).setWorkerOpenIn ref (after (p.worker.countTake p.take))

/-- The reader position none in a record (R201). -/
def noReader : Nat := 31

/-! ### Commits (R83–R87) -/

/-- The commit of an IN, PASSED or free (R83, R115): an old open-in closed unpaired, the new one captured, the worker INSIDE,
PUNCH_OPEN written. The close of the old open-in computes no pay; it reads the day entry of its instance, and a failing entry sets
ENTRY_INVALID in its record (R61, R65, log entry 43). -/
def State.commitInward (s : State) (ref : WorkerRef) (stamp : Option Stamp) (gate : Gate) (position : Fin 16)
    (noMove free : Bool) : State :=
  let w := s.worker ref
  let rule := s.payRule w.rule
  let take := if w.openIn.isSome then s.excTake rule .missingOut else .disabled
  let old : List JRecord := match w.openIn with
    | none => []
    | some o => [punchUnpaired w.badge o.stamp true o.gate noReader take.slotNo
        (RecFlags.withTake { late := o.late, offShift := o.offShift } take) (s.closeLimits w.group o.start).entryInvalid]
  let oldStamp := w.openIn.bind OpenIn.stamp
  let oldDay := match w.openStart with
    | some x => some x.1
    | none => oldStamp.map Stamp.day
  let new := captureOpenIn stamp gate.val (s.finding w.group stamp)
  let open_ := punchOpen w.badge stamp new.start new.late new.offShift noMove free gate.val position.val take.slotNo
  let s := (s.spend punchWords (old ++ [open_])).fillTaken take (emptyFill .missingOut ref w.badge oldStamp none oldDay) rule
  s.setWorkerOpenIn ref ({ w with openIn := some new, presence := .inside, inFlight := none }.countTake take)

/-- The commit of an OUT, PASSED or free (R84, R114): the pair closed, or MISSING_IN; then OUTSIDE with open-in NONE. -/
def State.commitOutward (s : State) (ref : WorkerRef) (stamp : Option Stamp) (gate : Gate) (position : Fin 16)
    (passbackSoft noMove free : Bool) : State :=
  let w := s.worker ref
  let f : RecFlags := { passbackSoft := passbackSoft, noMove := noMove, free := free }
  let after (w : Worker) : Worker := { w with presence := .outside, openIn := none, inFlight := none }
  match w.openIn with
  | some o => s.closePair ref o .out stamp gate.val position.val f after
  | none =>
    let rule := s.payRule w.rule
    let take := s.excTake rule .missingIn
    let s := (s.spend punchWords [punchUnpaired w.badge stamp false gate.val position.val take.slotNo (f.withTake take)]).fillTaken
      take (emptyFill .missingIn ref w.badge none stamp (stamp.map Stamp.day)) rule
    s.setWorkerOpenIn ref (after (w.countTake take))

/-- The commit of a NOT_PASSED or a VOIDED outcome (R85, R86): its record; in-flight gate and last accepted reader none. -/
def State.commitEnded (s : State) (g : Gate) (p : Punch) (cause : Option VoidCause) : State :=
  let w := s.worker p.worker
  (s.spend punchWords [punchEnded w.badge p g.val cause]).setWorker p.worker
    { w with inFlight := none, lastReader := none, lastStamp := none }

/-- The punch at the head leaves its queue (R82 step 3). -/
def State.dropHead (s : State) (g : Gate) : State := s.setQueue g ((s.queue g).drop 1)

/-! ### The sweep's closes (R121–R123) -/

/-- A due open-in: the current absolute second has passed E plus the delay, on the cycle (R121). -/
def autoCloseDue (now : Stamp) (stop : Stamp) (delay : Nat) : Bool :=
  decide (0 < delay ∧ ahead secondCycle (stop.abs + 60 * delay) now.abs < secondCycle / 2)

/-- An off-shift open-in is closed when it has stood for 16 hours, or at once with an undefined in stamp (R122). -/
def offShiftDue (now : Option Stamp) (tin : Option Stamp) : Bool := match tin, now with
  | none, _ => true
  | some _, none => false
  | some x, some n =>
    let d := ahead secondCycle x.abs n.abs
    decide (57600 ≤ d ∧ d < secondCycle / 2)

/-- The sweep's close of an off-shift open-in: PUNCH_UNPAIRED with AUTO, no pay (R122). -/
def State.closeOffShift (s : State) (ref : WorkerRef) (o : OpenIn) : State :=
  let w := s.worker ref
  (s.spend punchWords [punchUnpaired w.badge o.stamp true o.gate noReader none { auto := true }]).setWorkerOpenIn ref
    { w with presence := .unknown, openIn := none }

end Sys2Proof.Machine
end

