-- ==== Sys2Proof/Machine/Walks.lean ====
section
/-! DEFINITION. The walks: the order chain and its results (R194–R197), the stop (R192), the lookup (R38, R41), the closing
sweep (R119–R123), the carry of a worker table (R43–R46), the offer of room (R176), and how every event ends. -/

namespace Sys2Proof.Machine

/-! ### Run state: a start begins, a stop completes (R191, R192) -/

/-- STARTING entered: the sweep IDLE, the walk IDLE with its end mark clear (R119, R191, R195). -/
def State.beginStart (s : State) : State :=
  let s := s.withControl { s.control with runState := .starting }
  let s := s.withEngine { s.engine with sweep := .idle, sweepPending := false }
  s.withOrders OrderUnit.reset

/-- No punch in flight, every bell line IDLE and the walk idle (R192). -/
def State.quiet (s : State) : Bool :=
  (gates.all fun g => (s.queue g).isEmpty) && (lineNos.all fun n => (s.line n).state == .idle) && !s.orders.walking

/-- STOPPING ends when all of R192 holds together; with the RUN request set a start begins at once (R191, R192). -/
def State.stopCheck (s : State) : State :=
  if s.control.runState = .stopping ∧ s.quiet = true then
    let s := s.withControl { s.control with runState := .stopped }
    if s.control.runRequest then s.beginStart else s
  else s

/-! ### The chain walk (R195–R197) -/

/-- The walk ends: IDLE, the end mark cleared, ORDERS_DONE latched; the stop of R192 is tested (R197). -/
def State.endWalk (s : State) : State := ((s.withOrders OrderUnit.reset).latch .setOrdersDone).stopCheck

/-- The END flag of a link word, and the address it names (13.8, log entry 15). -/
def linkEnds (link : Word) : Bool := flagAt link 0
def linkAddress (link : Word) : Nat := link.toNat / 4 * 4

/-- The result word of the current block written, and the walk ended or moved to the next block (R196 step 6, R197). -/
def State.finishBlock (s : State) (link : Word) (r : OrderResult) : State :=
  let s := s.store (s.orders.current + 8) r.word
  if s.orders.endMark || linkEnds link then s.endWalk
  else s.withOrders { s.orders with inHand := none, current := linkAddress link }

/-- The order in hand answered: its output words in ascending order, then its result (R196). -/
def State.answer (s : State) (outs : List Word) (r : OrderResult) : State := match s.orders.inHand with
  | none => s
  | some h => (s.storeAll (s.orders.current + 12 + 4 * h.params.length) outs).finishBlock h.link r

/-- `n` output words whose values the spec does not state for this outcome (log entry 5). -/
def State.freeWords : Nat → State → List Word × State
  | 0, s => ([], s)
  | n + 1, s =>
    let r := State.freeWords n s.takeFree.2
    (s.takeFree.1 :: r.1, r.2)

/-- An order turned away by its owner, its outputs free values (R196, log entry 5). -/
def State.turnAway (s : State) (outputs : Nat) (r : OrderResult) : State :=
  let f := State.freeWords outputs s
  f.2.answer f.1 r

/-- The order in hand, when it is the one named. -/
def State.inHandIs (s : State) (o : Order) : Option InHand := match s.orders.inHand with
  | none => none
  | some h => if h.order = o then some h else none

/-! ### Lookup (R38, R41) -/

/-- The probes of a lookup: at most 14 for 8,192 records (R38). -/
def probes : Nat := 14

/-- The badge field of a record (R38). -/
def badgeAt (m : Memory) (base i : Nat) : Nat := (readWord m (base + 4 * workerWords * i)).toNat

/-- The binary search between two bounds, `hi` the bound after the last candidate (R38). -/
def search (m : Memory) (base badge : Nat) : Nat → Nat → Nat → Option Nat
  | 0, _, _ => none
  | fuel + 1, lo, hi =>
    if lo < hi then
      let mid := (lo + (hi - 1)) / 2
      let b := badgeAt m base mid
      if b = badge then some mid
      else if b < badge then search m base badge fuel (mid + 1) hi
      else search m base badge fuel lo mid
    else none

/-- The record of a badge in a table (R38). -/
def Table.find (t : Table) (m : Memory) (badge : Nat) : Option WorkerRef :=
  (search m t.base badge probes 0 t.count).map fun i => { base := t.base, index := i }

/-- The lookup of a badge: in the live table, and during a CARRY in the table the carry cursor chooses (R38, R41). -/
def State.lookup (s : State) (badge : Nat) : Option WorkerRef := match s.engine.workers with
  | none => none
  | some old =>
    match s.engine.install with
    | .idle | .verify _ _ => old.find s.mem badge
    | .carry c =>
      let carried := match c.cursor with
        | none => false
        | some x => decide (badge ≤ x)
      if carried then c.table.find s.mem badge
      else match old.find s.mem badge with
        | some r => some r
        | none => c.table.find s.mem badge

/-! ### The closing sweep (R119–R123) -/

/-- An install waits at the end of its VERIFY (R43). -/
def Install.waiting : Install → Bool
  | .verify t i => decide (t.count ≤ i)
  | .idle | .carry _ => false

def Install.inCarry : Install → Bool
  | .carry _ => true
  | .idle | .verify _ _ => false

/-- The sweep ends past the last index; a pending mark starts the next one, unless an install is in CARRY or waits (R119). -/
def State.endSweep (s : State) : State :=
  let e := s.engine
  if e.sweepPending && !e.install.inCarry && !e.install.waiting then
    s.withEngine { e with sweep := .running, sweepCursor := 0, sweepPending := false }
  else s.withEngine { e with sweep := .idle }

/-- The cursor moves to the next index (R120). -/
def State.sweepOn (s : State) (count : Nat) : State :=
  let e := s.engine
  let s := s.withEngine { e with sweep := .running, sweepCursor := e.sweepCursor + 1 }
  if count ≤ e.sweepCursor + 1 then s.endSweep else s

/-- What the sweep finds at a worker (R120–R122). -/
inductive SweepFinding where
  | pass
  | autoClose (o : OpenIn) (stop : Stamp)
  | offShift (o : OpenIn)
  deriving DecidableEq, Repr

/-- The test of one worker, with the current stamp (R120–R122). An open-in without a shift start is tested as off-shift, whatever
its OFF_SHIFT flag (log entry 42). -/
def State.sweepFinding (s : State) (w : Worker) : SweepFinding :=
  if w.inFlight.isSome then .pass
  else match w.openIn with
    | none => .pass
    | some o =>
      match o.start with
      | some x =>
        let stop := instanceEnd x o.length
        match s.time.stamp with
        | none => .pass
        | some now => if autoCloseDue now stop (s.autoCloseDelay w.group x.1) then .autoClose o stop else .pass
      | none => if offShiftDue s.time.stamp o.stamp then .offShift o else .pass

/-- The AUTO close of a due open-in, the worker UNKNOWN after it (R121). -/
def State.closeAuto (s : State) (ref : WorkerRef) (o : OpenIn) (stop : Stamp) : State :=
  s.closePair ref o .auto (some stop) o.gate noReader {} fun w => { w with presence := .unknown, openIn := none }

/-- A close of the sweep, when its 12 words of room are there; else the sweep pauses at its worker (R123). -/
def State.sweepClose (s : State) (count : Nat) (close : State → State) : State :=
  let r := s.requestClose punchWords
  if r.1 then (close r.2).sweepOn count else r.2.withEngine { r.2.engine with sweep := .paused }

/-- The test of the worker at the cursor (R120), first made or retried (R123). -/
def State.sweepStep (s : State) : State := match s.engine.workers with
  | none => s
  | some t =>
    let ref : WorkerRef := { base := t.base, index := s.engine.sweepCursor }
    match s.sweepFinding (s.worker ref) with
    | .pass => s.sweepOn t.count
    | .autoClose o stop => s.sweepClose t.count fun s => s.closeAuto ref o stop
    | .offShift o => s.sweepClose t.count fun s => s.closeOffShift ref o

/-! ### The carry (R43–R46) -/

/-- The next badge of the carry's merge, and in which tables it stands (R43). -/
inductive CarryNext where
  | both (badge : Nat)
  | oldOnly (badge : Nat)
  | newOnly (badge : Nat)
  | finished
  deriving DecidableEq, Repr

/-- The smaller of the next old badge and the next new badge (R43). -/
def State.carryNext (s : State) (old : Table) (c : Carry) : CarryNext :=
  let b (t : Table) (i : Nat) : Option Nat := if i < t.count then some (badgeAt s.mem t.base i) else none
  match b old c.oldNext, b c.table c.newNext with
  | none, none => .finished
  | some x, none => .oldOnly x
  | none, some y => .newOnly y
  | some x, some y => if x = y then .both x else if x < y then .oldOnly x else .newOnly y

/-- The completion of the install (R46): the new table the only one, the phase IDLE, the three counts and DONE, and a
pending sweep started over the new table. -/
def State.completeInstall (s : State) (c : Carry) : State :=
  let s := s.withEngine { s.engine with workers := some c.table, install := .idle }
  let s := s.answer [BitVec.ofNat 32 c.matchedSteps, BitVec.ofNat 32 c.oldOnlySteps, BitVec.ofNat 32 c.newOnlySteps] .done
  if s.engine.sweepPending then
    s.withEngine { s.engine with sweep := .running, sweepCursor := 0, sweepPending := false }
  else s

/-- A carry step taken: the cursor at its badge, and the install complete after the last badge of both tables (R43, R46). -/
def State.carryTaken (s : State) (old : Table) (c : Carry) : State :=
  if s.carryNext old c = .finished then s.completeInstall c else s.withEngine { s.engine with install := .carry c }

/-- The matched step: it waits for a punch in flight, then copies the live fields (R44). -/
def State.matchStep (s : State) (old : Table) (c : Carry) (badge : Nat) : State :=
  let w := s.worker { base := old.base, index := c.oldNext }
  if w.inFlight.isSome then s
  else
    let s := s.storeAll (({ base := c.table.base, index := c.newNext } : WorkerRef).address + 16) w.liveWords
    s.carryTaken old { c with oldNext := c.oldNext + 1, newNext := c.newNext + 1, cursor := some badge,
                              matchedSteps := c.matchedSteps + 1 }

/-- The records of an old-only step, REMOVAL_CLOSE first (R45). -/
def Worker.departure (w : Worker) : List JRecord :=
  (match w.openIn with
    | none => []
    | some o => [removalClose w.badge o.stamp]) ++
  (if w.regular ≠ 0 ∨ w.overtime ≠ 0 ∨ w.night ≠ 0 ∨ w.amount ≠ 0 ∨ w.pairs ≠ 0 ∨ w.saturated = true ∨ w.pendingCount ≠ 0
    then [departureTotals w] else [])

/-- The old-only step: it waits for a punch in flight, and pauses without journal room; else it is taken whole (R45). -/
def State.oldOnlyTry (s : State) (old : Table) (c : Carry) (badge : Nat) : State :=
  let w := s.worker { base := old.base, index := c.oldNext }
  if w.inFlight.isSome then s.withEngine { s.engine with install := .carry { c with paused := false } }
  else
    let next := { c with oldNext := c.oldNext + 1, cursor := some badge, oldOnlySteps := c.oldOnlySteps + 1, paused := false }
    let words := punchWords * w.departure.length
    let r := s.requestClose words
    if w.departure.isEmpty then s.carryTaken old next
    else if r.1 then (r.2.spend words w.departure).carryTaken old next
    else r.2.withEngine { r.2.engine with install := .carry { c with paused := true } }

/-! ### The offer of room, and the end of every event (R176) -/

/-- Room given back is offered to a paused sweep or a paused carry walk, which retries at once (R176, log entry 12). -/
def State.offerRoom (s : State) : State :=
  if s.journal.roomGiven then
    let s := s.withJournal { s.journal with roomGiven := false }
    let s := match s.engine.sweep, s.engine.install, s.engine.workers with
      | .paused, _, _ => s.sweepStep
      | _, .carry c, some old =>
        if c.paused then
          match s.carryNext old c with
          | .oldOnly b => s.oldOnlyTry old c b
          | _ => s
        else s
      | _, _, _ => s
    s.withJournal { s.journal with roomGiven := false }
  else s

/-- How every event ends: room given back is offered, the alarm follows its conditions, and the status block shows what
changed (R147, R176, R198). -/
def settled (before after : State) : State := publish before (followAlarm before after.offerRoom)

/-- The answer of a command whose event took `before` to `after`. -/
def finish (before after : State) : Result := .next (settled before after)

end Sys2Proof.Machine
end

