-- ==== Sys2Proof/Machine/BellEvents.lean ====
section
/-! DEFINITION. The commands of the bell sequencer's own times (R164–R167) and of the journal writer's timers (R180, R181, R183).
A command whose event cannot occur in a state leaves that state as it is (log entry 10). -/

namespace Sys2Proof.Machine

/-! ### Bells (R164–R167) -/

/-- PENDING_FREE_SEND_DUE: the local absolute time has reached the send time (R164). -/
def execPendingFreeSendDue (g : Gate) (s : State) : Result := match s.freeSend g with
  | none => .next s
  | some f =>
    if tickReached s.time.absTick f.sendTime then finish s ((s.setFreeSend g none).sendFree g f.endMinute f.entry) else .next s

/-- The due time of the head instance has been reached; "at once" is reached on entry (R165). -/
def Line.headDue (l : Line) (now : Nat) : Bool := match l.queue with
  | [] => false
  | h :: _ => match h.due with
    | none => true
    | some t => tickReached now t

/-- The line stands at the half second of its claim: in DELAY with its due time reached, or in GAP with its gap ended, and in
neither with its release of the slot still to come (R165, R167). -/
def State.claims (s : State) (n : LineNo) : Bool :=
  let l := s.line n
  s.time.atHalfSecond && l.releaseAt.isNone && match l.state with
    | .delay => l.headDue s.time.absTick
    | .gap => decide (l.phaseEnds ≤ s.time.osc)
    | .idle | .claim | .on | .settle => false

/-- The claim: CLAIM with granted clear and the claim placed; refused for LOW, the line takes it as it takes LOW
(R154, R165, R166, R171). -/
def State.placeBellClaim (s : State) (n : LineNo) : State :=
  if s.supply.state = .low then (s.lineLow n).stopCheck
  else (s.setLine n { s.line n with state := .claim, granted := false }).claimSlot (.line n)

/-- BELL_CLAIM (R165, R167). -/
def execBellClaim (n : LineNo) (s : State) : Result := if s.claims n then finish s (s.placeBellClaim n) else .next s

/-- Ticks of 50 ms in 100 ms, and in the hit phase of a pulse (R166). -/
def ticksPerTenth : Nat := 2
def hitPhaseTicks : Nat := 3

/-- The line starts a pulse: the longer of the head's on time and the minimum on (R166). -/
def Line.startPulse (l : Line) (now : Nat) : Line :=
  let onTime := match l.queue with
    | [] => 0
    | h :: _ => h.onTime
  { l with state := .on, pulsesDone := l.pulsesDone + 1, phaseEnds := now + ticksPerTenth * max onTime l.minOn,
           releaseAt := some (now + hitPhaseTicks) }

/-- PULSE_START: a granted line at a half second (R166). -/
def execPulseStart (n : LineNo) (s : State) : Result :=
  let l := s.line n
  if l.state = .claim ∧ l.granted = true ∧ s.time.atHalfSecond = true then finish s (s.setLine n (l.startPulse s.time.osc))
  else .next s

/-- BELL_SLOT_RELEASE: 150 ms after the pulse start (R166). -/
def execBellSlotRelease (n : LineNo) (s : State) : Result := match (s.line n).releaseAt with
  | none => .next s
  | some t =>
    if t ≤ s.time.osc then finish s ((s.setLine n { s.line n with releaseAt := none }).releaseSlot (.line n)) else .next s

/-- The end of a pulse: GAP with more pulses to run and cut clear, else SETTLE for 1 s (R167). -/
def Line.endPulse (l : Line) (now : Nat) : Line := match l.queue with
  | [] => { l with state := .settle, phaseEnds := now + ticksPerSecond }
  | h :: _ =>
    if l.pulsesDone < h.pulses ∧ l.cut = false then { l with state := .gap, phaseEnds := now + ticksPerTenth * h.gap }
    else { l with state := .settle, phaseEnds := now + ticksPerSecond }

/-- PULSE_END (R167). -/
def execPulseEnd (n : LineNo) (s : State) : Result :=
  let l := s.line n
  if l.state = .on ∧ l.phaseEnds ≤ s.time.osc then finish s (s.setLine n (l.endPulse s.time.osc)) else .next s

/-- The end of SETTLE: the head leaves, the next instance becomes head or the line is IDLE (R165, R167). -/
def Line.endSettle (l : Line) : Line := ({ l with queue := l.queue.drop 1 } : Line).takeHead

/-- SETTLE_END (R167); with the line IDLE a stop may be complete (R192). -/
def execSettleEnd (n : LineNo) (s : State) : Result :=
  let l := s.line n
  if l.state = .settle ∧ l.phaseEnds ≤ s.time.osc then finish s ((s.setLine n l.endSettle).stopCheck) else .next s

/-! ### The journal writer's timers (R180, R181, R183) -/

/-- RELEASE_WALK: the walk of the second, while a journal is held and not damaged (R180). -/
def execReleaseWalk (s : State) : Result := finish s s.releaseWalk

/-- The header at the read position passes its check again (R181). -/
def State.headerPasses (s : State) : Bool := match s.journal.region with
  | none => false
  | some r => match s.journal.checkHeader r (s.load s.journal.readPos) with
    | .fails => false
    | .filler | .record _ => true

/-- DAMAGE_RECHECK: the reread of the second, while damaged (R181). The walk before a refusal is open again at once (log entry
58). -/
def execDamageRecheck (s : State) : Result :=
  if s.journal.damaged = true ∧ s.headerPasses = true then finish s (s.withJournal { s.journal with damaged := false })
  else .next s

/-- JOURNAL_HOLD_EXPIRY: one second without a HOLD refusal (R183). -/
def execJournalHoldExpiry (s : State) : Result := match s.journal.holdTimer with
  | none => .next s
  | some t => if s.time.elapsed t ticksPerSecond then finish s (s.withJournal { s.journal with holdTimer := none }) else .next s

end Sys2Proof.Machine
end

