-- ==== Sys2Proof/Machine/Chain.lean ====
section
/-! DEFINITION. The order chain (R194–R197): the write of ORDER POINTER, the reading of a block, and the regions that an
order's addresses are tested against. -/

namespace Sys2Proof.Machine

/-! ### Regions (R42, R58, R125, R160) -/

/-- The region of a table that may be none, with its entry size in words. -/
def tableRegion (t : Option Table) (entryWords : Nat) : List (Nat × Nat) := match t with
  | none => []
  | some t => [(t.base, t.count * entryWords)]

/-- The region of a fixed number of words that may be none. -/
def fixedRegion (a : Option Nat) (words : Nat) : List (Nat × Nat) := match a with
  | none => []
  | some a => [(a, words)]

/-- The regions that a new table or destination may not overlap: the anchor block, the live worker table, the shift, gate,
bell and exception tables, the journal region and the status block, each a base address and a count of words (R42). -/
def State.liveRegions (s : State) : List (Nat × Nat) :=
  [(0, anchorWords)] ++ tableRegion s.engine.workers workerWords ++ fixedRegion s.engine.shift shiftTableWords ++
    fixedRegion s.control.gateTable gateTableWords ++ tableRegion s.bells.current bellEntryWords ++
    tableRegion s.engine.exceptions slotWords ++ fixedRegion (s.journal.region.map Region.first) s.journal.capacity ++
    fixedRegion s.control.statusBlock statusWordCount

/-- The `n` words from `a` start at a word address, lie in common memory, and overlap no live region. -/
def State.regionFree (s : State) (a n : Nat) : Bool :=
  decide (a % 4 = 0) && inMemory a n && !(s.liveRegions.any fun r => overlaps a n r.1 r.2)

/-! ### ORDER POINTER (R195, R197) -/

/-- The install ends with its outputs free values (R42, log entry 5); a set pending mark of the sweep stands (log entry 50). -/
def State.endInstall (s : State) (r : OrderResult) : State :=
  (s.withEngine { s.engine with install := .idle }).turnAway 3 r

/-- An abort reaching the order in hand: a VERIFY ends ABORTED, one not yet begun is to end so, and every other order runs on
to its result (R42, R47, R197, log entry 14). -/
def State.abortInHand (s : State) (h : InHand) : State :=
  if h.order = .installWorkerTable then
    match s.engine.install with
    | .verify _ i => s.endInstall (.aborted i)
    | .idle => s.withOrders { s.orders with inHand := some { h with aborted := true } }
    | .carry _ => s
  else s

/-- The end mark set in a walk: between two blocks the walk ends at once, else after the current order (R197, R200). -/
def State.markEnd (s : State) : State := match s.orders.inHand with
  | none => s.endWalk
  | some _ => s.withOrders { s.orders with endMark := true }

/-- An abort of the walk, by a zero written or by entry to STOPPING (R197). -/
def State.abortWalk (s : State) : State :=
  if s.orders.walking then
    match s.orders.inHand with
    | none => s.endWalk
    | some h => s.markEnd.abortInHand h
  else s

/-- A write to ORDER POINTER (R195). -/
def State.writePointer (s : State) (w : Word) : State :=
  if w = 0 then (if s.control.runState = .running then s.abortWalk else s)
  else if s.control.runState = .running ∧ s.orders.walking = false then
    s.withOrders { walking := true, current := w.toNat / 4 * 4, endMark := false, inHand := none }
  else s.latch .setOrderRefused

/-- ORDER_POINTER_WRITE (R195). -/
def execOrderPointerWrite (w : Word) (s : State) : Result := finish s (s.writePointer w)

/-! ### Order blocks (R196) -/

/-- The words of a block header. -/
def headerWords : Nat := 3

/-- The next block read (R196 steps 1 to 5): the walk ended, the block answered BAD_CODE or BAD_PARAM, or its order handed to
its owner. -/
def State.readBlock (s : State) : State :=
  let a := s.orders.current
  if !inMemory a headerWords then s.endWalk
  else
    let link := s.load a
    let w1 := s.load (a + 4)
    match Order.ofCode (field w1 0 8) with
    | none => s.finishBlock link .badCode
    | some o =>
      if field w1 8 8 ≠ o.paramCount ∨ inMemory a (headerWords + o.paramCount + o.outputCount) = false then
        s.finishBlock link .badParam
      else
        s.withOrders { s.orders with
          inHand := some { order := o, params := readWords s.mem (a + 12) o.paramCount, link := link, aborted := false } }

/-- ORDER_BLOCK (R196): while a walk stands between two blocks. -/
def execOrderBlock (s : State) : Result :=
  if s.orders.walking = true ∧ s.orders.inHand = none then finish s s.readBlock else .next s

end Sys2Proof.Machine
end

