-- ==== Sys2Proof/Machine/ControlEvents.lean ====
section
/-! DEFINITION. The commands of the control block: POWER_UP, HOST_RESTART (R187, R200), CONTROL_WRITE, START_CHECKS_DONE (R189–R192),
MEMORY_FAULT (R193), and the writes of ATTENTION, ATTENTION ENABLE and the other registers (R187, R199). -/

namespace Sys2Proof.Machine

/-! ### Power-up and HOST RESTART (R151, R187, R200) -/

/-- The part right after power-up: common memory and the queue of commands as they were, the supply state decided by its first
sample, and the alarm with it (R147, R151). -/
def State.poweredUp (s : State) (supply : Nat) : State :=
  let low := decide (supply < 190)
  { State.reset with
      mem := s.mem, freeUsed := s.freeUsed, pending := s.pending,
      supply := { state := if low then .low else .normal, lowRun := 0, recoveryRun := 0 },
      control := { Control.reset with alarm := low } }

/-- POWER_UP (R187, R200, log entry 7). -/
def execPowerUp (supply : Nat) (s : State) : Result := .next (s.poweredUp supply)

/-- HOST RESTART: enables zero, latched causes clear, the end mark set in a walk (R200). -/
def State.restarted (s : State) : State :=
  let s := s.withControl { s.control with enables := 0, latched := .clear }
  if s.orders.walking then s.markEnd else s

/-- HOST_RESTART (R200). -/
def execHostRestart (s : State) : Result := finish s s.restarted

/-! ### The start (R48, R112, R185, R188–R190) -/

/-- The seven regions that a start checks, in index order from 1, with the anchor block as region 0: base address and count of
words (R188, R189). A journal whose end lies before its start has no words, one whose end is no word address the whole words it
has (log entry 59). -/
def Anchor.regions (a : Anchor) : List (Nat × Nat) :=
  [ (0, anchorWords), (a.workers.base, a.workers.count * workerWords), (a.shift, shiftTableWords), (a.gateTable, gateTableWords),
    (a.bells.base, a.bells.count * bellEntryWords), (a.exceptions.base, a.exceptions.count * slotWords),
    (a.journalFirst, if a.journalLast < a.journalFirst then 0 else (a.journalLast - a.journalFirst) / 4 + 1),
    (a.statusBlock, statusWordCount) ]

/-- A region starts at a word address and all its words lie below 100000h (R189 check 6). -/
def regionPlaced (r : Nat × Nat) : Bool := decide (r.1 % 4 = 0) && inMemory r.1 r.2

/-- The pairs of region indices in index order (R189 check 7). Which index of a pair orders the pairs is left open: the model goes by
the lower index first, then by the higher (DESIGN CHOICE, log entry 74). -/
def regionPairs : List (Nat × Nat) :=
  (List.range 8).flatMap fun i => ((List.range 8).filter fun j => decide (i < j)).map fun j => (i, j)

/-- Regions `i` and `j` share a word. -/
def Anchor.shares (a : Anchor) (i j : Nat) : Bool :=
  let x := a.regions.getD i (0, 0)
  let y := a.regions.getD j (0, 0)
  overlaps x.1 x.2 y.1 y.2

/-- The capacity C that the anchor gives (R174, R185). -/
def Anchor.capacity (a : Anchor) : Nat := (a.journalLast - a.journalFirst) / 4 + 1

/-- The journal parameters (R185). -/
def Anchor.journalValid (a : Anchor) : Bool :=
  decide (a.journalFirst % 4 = 0 ∧ a.journalLast % 4 = 0 ∧ a.journalFirst < a.journalLast ∧ a.capacity % 4 = 0 ∧
    64 ≤ a.capacity ∧ a.capacity ≤ 131072 ∧ a.holdLevel % 4 = 0 ∧ a.holdLevel ≤ 4096 ∧ a.holdLevel + 44 ≤ a.capacity)

/-- A check that fails, with its start index; the first of a list of checks that fails (R189). -/
def firstFault (checks : List (StartResult × Option Nat)) : Option (StartResult × Nat) :=
  checks.findSome? fun c => c.2.map fun i => (c.1, i)

/-- An index when a test fails. -/
def failAt (i : Nat) (ok : Bool) : Option Nat := if ok then none else some i

/-- The checks of the anchor block, orders 1 to 8 (R189). -/
def Anchor.fault (a : Anchor) : Option (StartResult × Nat) :=
  firstFault
    [ (.signature, failAt 0 (a.signature == anchorSignature)),
      (.version, failAt 0 (a.version == layoutVersion)),
      (.workerTable, failAt 65535 (decide (1 ≤ a.workers.count ∧ a.workers.count ≤ 8192))),
      (.bellTable, failAt 65535 (decide (a.bells.count ≤ 128))),
      (.exceptionSlot, failAt 65535 (decide (a.exceptions.count ≤ 32))),
      (.region, ([1, 2, 3, 4, 5, 6, 7] : List Nat).find? fun i => !regionPlaced (a.regions.getD i (0, 0))),
      (.overlap, (regionPairs.find? fun p => a.shares p.1 p.2).map Prod.snd),
      (.journal, failAt 0 a.journalValid) ]

/-- The check of a worker record at start: that of VERIFY, and the live fields that carry codes (R42, R48). -/
def startRecordPasses (m : Memory) (t : Table) (i : Nat) : Bool :=
  let w := Worker.read m (({ base := t.base, index := i } : WorkerRef).address)
  decide (1 ≤ w.badge ∧ w.badge ≤ 4294967294 ∧ w.group ≤ 31 ∧ w.rule ≤ 15 ∧ w.rate ≤ 1048575) &&
    (decide (i = 0) || decide (badgeAt m t.base (i - 1) < w.badge)) && w.presence != .reserved &&
    decide (w.openGate ≤ 7 ∧ w.openLength ≤ 960 ∧ w.rd ≤ 960 ∧ w.pendingCount ≤ 32)

/-- The checks of the tables, orders 9 to 13 (R189). -/
def tablesFault (m : Memory) (a : Anchor) : Option (StartResult × Nat) :=
  firstFault
    [ (.workerTable, (List.range a.workers.count).find? fun i => !startRecordPasses m a.workers i),
      (.shiftTable, shiftTableFault m a.shift),
      (.gateTable, (List.range 8).find? fun n => gateFails m a.gateTable n),
      (.bellTable, bellTableFault m a.bells.base a.bells.count),
      (.exceptionSlot, (List.range a.exceptions.count).find? fun i => decide (1 < slotState m a.exceptions i)) ]

/-- All checks of a start: the first that fails (R189). -/
def startFault (m : Memory) : Option (StartResult × Nat) :=
  let a := Anchor.read m
  match a.fault with
  | some f => some f
  | none => tablesFault m a

/-- The PENDING slots that name a badge (R48). -/
def pendingSlots (m : Memory) (t : Table) (badge : Nat) : Nat :=
  ((List.range t.count).filter fun i => slotState m t i == 1 && slotBadge m t i == badge).length

/-- The change of the worker table at a start: every in-flight gate none, every pending count recounted (R48). -/
def State.recount (s : State) (workers exceptions : Table) : State :=
  (List.range workers.count).foldl (fun s i =>
    let ref : WorkerRef := { base := workers.base, index := i }
    let w := s.worker ref
    s.setWorker ref { w with inFlight := none, pendingCount := pendingSlots s.mem exceptions w.badge }) s

/-- The journal writer as a start sets it (R185). -/
def Journal.started (j : Journal) (a : Anchor) : Journal :=
  let first := if a.firstSeq = 0 then 1 else a.firstSeq
  { j with region := some { first := a.journalFirst, last := a.journalLast }, writePos := a.journalFirst,
           readPos := a.journalFirst, used := 0, reserved := 0, unreleased := 0, nextSeq := first, oldestSeq := first,
           damaged := false, denialsUnrecorded := 0, noticesLost := 0, holdLevel := a.holdLevel, threshold := a.threshold }

/-- The bell sequencer as a start sets it (R161, R172). -/
def State.startBells (s : State) (a : Anchor) : State :=
  let s := s.withBells { s.bells with current := some a.bells, pendingTable := none }
  eachLine (fun n s => s.setLine n { s.line n with minOn := clamp 1 20 (lineMinOn s.mem a.gateTable n.val) }) s

/-- A channel takes its parameters at a start. One that ceases to be equipped leaves the hit slot and its list; one that is
equipped tests R130, which finds something only where this made it IDLE (R128, R150, log entry 18). -/
def State.startGate (s : State) (g : Gate) (e : GateEntry) : State :=
  let s := s.setDoor g ((s.door g).takeParams e)
  if e.equipped then s.beginCycle g else s.withdrawClaim (.door g)

/-- Each channel takes its parameters, and the position map is formed (R17, R128). -/
def State.startGates (s : State) (a : Anchor) : State :=
  let s := s.withControl { s.control with gateTable := some a.gateTable }
  (eachGate (fun g s => s.startGate g (GateEntry.read s.mem a.gateTable g.val)) s).formMap

/-- The entry to RUNNING (R189). -/
def State.enterRunning (s : State) (a : Anchor) : State :=
  let s := s.recount a.workers a.exceptions
  let s := s.withEngine { s.engine with workers := some a.workers, shift := some a.shift, exceptions := some a.exceptions,
                                        install := .idle, lastException := { code := none, slot := 0, badge := 0 } }
  let s := s.withJournal (s.journal.started a)
  let s := s.withControl { s.control with statusBlock := some a.statusBlock }
  let s := (s.startGates a).startBells a
  let s := s.storeAll a.statusBlock s.statusWords
  s.withControl { s.control with startResult := .started, startIndex := 0, runState := .running }

/-- A failed start (R189). -/
def State.failStart (s : State) (r : StartResult) (i : Nat) : State :=
  let s := s.withControl { s.control with runState := .stopped, runRequest := false, startResult := r, startIndex := i }
  (s.withEngine { s.engine with workers := none, shift := none, exceptions := none }).latch .setStartFailed

/-- The end of the checks of a start: CANCELLED, failed, or RUNNING (R189, R191). -/
def State.endStart (s : State) : State :=
  if s.control.runRequest then
    match startFault s.mem with
    | some f => s.failStart f.1 f.2
    | none => s.enterRunning (Anchor.read s.mem)
  else s.withControl { s.control with runState := .stopped, startResult := .cancelled, startIndex := 0 }

/-- START_CHECKS_DONE (R189, R191). -/
def execStartChecksDone (s : State) : Result :=
  if s.control.runState = .starting then finish s s.endStart else .next s

/-! ### CONTROL (R191, R192) -/

/-- The bells at entry to STOPPING (R172). -/
def State.stopBells (s : State) : State :=
  let s := s.withBells { s.bells with freeSends := Vector.replicate 8 none }
  eachLine (fun n s => s.setLine n (s.line n).stop) s

/-- Entry to STOPPING, handed to every block (R42, R124, R150, R172, R192, R197), the channels in the order of their gates
(log entry 57). -/
def State.enterStopping (s : State) : State :=
  let s := s.withControl { s.control with runState := .stopping, runRequest := false }
  let s := s.withEngine { s.engine with sweep := .idle, sweepPending := false }
  let s := (eachGate (fun g s => s.doorStop g) s).stopBells
  s.abortWalk.stopCheck

/-- A write to CONTROL: the RUN request replaced, and taken by the run state (R191, log entry 27). -/
def State.writeControl (s : State) (run : Bool) : State :=
  let t := s.withControl { s.control with runRequest := run }
  match s.control.runState with
  | .stopped | .faulted => if run then t.beginStart else t
  | .starting | .stopping => t
  | .running => if run then t else s.enterStopping

/-- CONTROL_WRITE (R191): RUN is bit 0 (13.9). -/
def execControlWrite (w : Word) (s : State) : Result := finish s (s.writeControl (flagAt w 0))

/-! ### The memory fault (R193) -/

/-- The words that the cut event had already written (log entry 8). -/
def State.writeCut (s : State) (cut : List (Nat × Word)) : State := cut.foldl (fun s c => s.store c.1 c.2) s

/-- The journal writer at a memory fault (R186). -/
def Journal.dropped (j : Journal) : Journal :=
  { j with region := none, reserved := 0, unreleased := 0, holdTimer := none, roomGiven := false }

/-- The attendance engine at a memory fault (R37, R47, R60, R88, R112, R124, R126). -/
def Engine.faulted (e : Engine) : Engine :=
  { e with workers := none, shift := none, exceptions := none, queues := Vector.replicate 8 [], sweep := .idle,
           sweepPending := false, install := .idle, takeTotals := none }

/-- The bell sequencer at a memory fault (R172). -/
def Bells.faulted (b : Bells) : Bells :=
  { b with current := none, pendingTable := none, lines := b.lines.map Line.emptied, freeSends := Vector.replicate 8 none }

/-- The memory fault taken by every block (R193). -/
def State.takeFault (s : State) : State :=
  let s := s.withControl { s.control with runState := .faulted, runRequest := false, statusBlock := none }
  let s := (s.latch .setMemoryFault).withEngine s.engine.faulted
  let s := (s.emptyArbiter.withBells s.bells.faulted).withJournal s.journal.dropped
  (eachGate (fun g s => s.doorFault g) s).withOrders OrderUnit.reset

/-- The words of a cut event name word addresses of common memory. -/
def cutPlaced (cut : List (Nat × Word)) : Bool := cut.all fun c => decide (c.1 % 4 = 0) && inMemory c.1 1

/-- MEMORY_FAULT (R193): in FAULTED no access is made, so none faults. -/
def execMemoryFault (cut : List (Nat × Word)) (s : State) : Result :=
  if s.control.runState = .faulted then .next s
  else if cutPlaced cut then finish s (s.writeCut cut).takeFault
  else .fault .noSuchAddress

/-! ### ATTENTION, ATTENTION ENABLE and the other registers (R187, R199) -/

/-- A latched cause is cleared by a 1 at its place (R199). -/
def Latched.clearedBy (l : Latched) (w : Word) : Latched :=
  { ordersDone := l.ordersDone && !flagAt w 0, orderRefused := l.orderRefused && !flagAt w 1,
    startFailed := l.startFailed && !flagAt w 2, payException := l.payException && !flagAt w 3,
    doorFault := l.doorFault && !flagAt w 4, time := l.time && !flagAt w 5, reader := l.reader && !flagAt w 6,
    releaseInvalid := l.releaseInvalid && !flagAt w 7, journalDamaged := l.journalDamaged && !flagAt w 8,
    memoryFault := l.memoryFault && !flagAt w 9 }

/-- ATTENTION_WRITE (R199). -/
def execAttentionWrite (w : Word) (s : State) : Result := .next (s.latch fun l => l.clearedBy w)

/-- ATTENTION_ENABLE_WRITE (R187, R199). -/
def execAttentionEnableWrite (w : Word) (s : State) : Result :=
  .next (s.withControl { s.control with enables := w.setWidth 12 })

/-- REGISTER_WRITE: a write of IDENT or JOURNAL FILL is ignored (R187). -/
def execRegisterWrite (_r : ReadOnlyRegister) (_w : Word) (s : State) : Result := .next s

end Sys2Proof.Machine
end

