-- ==== Sys2Proof/Machine/DoorEvents.lean ====
section
/-! DEFINITION. The commands of the door drive and of the supply monitor (R129–R140, R147, R151–R153).
A command of samples brings the samples of one sense input, the last of which makes the event the command names. Samples that
bring no event are taken quietly; a run of samples that would bring another event, or the named event before its last
sample, is not that command and leaves the state as it is (log entries 10 and 11). -/

namespace Sys2Proof.Machine

/-! ### Coil samples (R131–R133, R136, R139) -/

/-- The coil samples of a channel taken, when the last of them brings an event that the command names, or none brings one. -/
def State.coilRun (s : State) (g : Gate) (named : CoilEvents → Bool) (xs : List CoilSample) : Result :=
  let r := (s.door g).feed xs
  if r.2.1.any then
    if named r.2.1 && r.2.2.isEmpty then finish s ((s.setDoor g r.1).coilEvents g r.2.1) else .next s
  else finish s (s.setDoor g r.1)

/-- VALLEY_COMPLETE: a sample at or above P in RECOVER (R132). -/
def execValleyComplete (g : Gate) (xs : List CoilSample) (s : State) : Result := s.coilRun g CoilEvents.valley xs

/-- HIT_END: the hit ends at valley completion with END_HIT_AUTO, or at hit time max (R133). -/
def execHitEnd (g : Gate) (xs : List CoilSample) (s : State) : Result := s.coilRun g CoilEvents.ends xs

/-- MOVED: the dip run reaches g (R131). -/
def execMoved (g : Gate) (xs : List CoilSample) (s : State) : Result := s.coilRun g CoilEvents.moved xs

/-- OVERCURRENT: the third sample in a row at or above 15.0 A (R139). -/
def execOvercurrent (g : Gate) (xs : List CoilSample) (s : State) : Result := s.coilRun g CoilEvents.trip xs

/-- RESISTANCE_WINDOW: the hundredth sample of a window in HOLD or FREE (R136). -/
def execResistanceWindow (g : Gate) (xs : List CoilSample) (s : State) : Result := s.coilRun g CoilEvents.window xs

/-! ### Contact samples (R129) -/

/-- A contact event acted on (R129). -/
def State.contactActs (s : State) (g : Gate) : ContactEvent → State
  | .taken level => s.contactStands g level
  | .opening => s.contactOpens g
  | .closing => s.contactCloses g

/-- The contact samples of a supervised channel taken, when the last of them brings an event that the command names, or none
brings one (R129). -/
def State.contactRun (s : State) (g : Gate) (named : ContactEvent → Bool) (xs : List Contact) : Result :=
  if (s.door g).supervised then
    let r := (s.door g).feedContact xs
    match r.2.1 with
    | none => finish s (s.setDoor g r.1)
    | some e => if named e && r.2.2.isEmpty then finish s ((s.setDoor g r.1).contactActs g e) else .next s
  else .next s

/-- CONTACT_OPENING (R129). -/
def execContactOpening (g : Gate) (xs : List Contact) (s : State) : Result := s.contactRun g (fun e => e == .opening) xs

/-- CONTACT_CLOSING (R129). -/
def execContactClosing (g : Gate) (xs : List Contact) (s : State) : Result := s.contactRun g (fun e => e == .closing) xs

/-- CONTACT_TAKEN: the contact as it stands at the start of supervision (R129). -/
def execContactTaken (g : Gate) (xs : List Contact) (s : State) : Result :=
  s.contactRun g (fun e => e == .taken .opened || e == .taken .closed) xs

/-! ### Timers and tests (R135, R137, R140, R147) -/

/-- The open timer of a channel in HOLD has run the open time (R135). -/
def State.openExpired (s : State) (g : Gate) : Bool :=
  let d := s.door g
  d.state == .hold && match d.openTimer with
    | none => false
    | some t => s.time.elapsed t (ticksPerSecond * d.par.openTime)

/-- OPEN_TIMER_EXPIRY: NOT_PASSED in CONTACT, PASSED in TIMED; coil off, IDLE (R135). -/
def execOpenTimerExpiry (g : Gate) (s : State) : Result :=
  if s.openExpired g then
    finish s ((s.reportServed g (match (s.door g).par.mode with
      | .contact => .notPassed
      | .timed => .passed)).toIdle g)
  else .next s

/-- The held-open timer has run its limit with the contact OPEN, in a state that it is supervised in, and HELD_OPEN is not yet
raised for this standing open (R137, R144, log entry 34). -/
def State.heldExpired (s : State) (g : Gate) : Bool :=
  let d := s.door g
  d.contact == .opened && d.state != .free && !d.heldRaised && match d.heldTimer with
    | none => false
    | some t => s.time.elapsed t (ticksPerSecond * d.par.heldLimit)

/-- HELD_OPEN raised (R137). -/
def State.raiseHeldOpen (s : State) (g : Gate) : State :=
  let d := s.door g
  ((s.setDoor g { d with flags := { d.flags with heldOpen := true }, heldUnresolved := true, heldRaised := true }).doorNoticeAt g
    .heldOpen false d.par.heldLimit).latch .setDoorFault

/-- HELD_OPEN (R137). -/
def execHeldOpen (g : Gate) (s : State) : Result := if s.heldExpired g then finish s (s.raiseHeldOpen g) else .next s

/-- The states in which the coil is tested: an equipped channel in IDLE or OUT_OF_SERVICE (R140). -/
def Door.tested (d : Door) : Bool := d.equipped && (d.state == .idle || d.state == .outOfService)

/-- OPEN_LOAD_TEST: the once-a-second test of the coil (R140). -/
def execOpenLoadTest (g : Gate) (passed : Bool) (s : State) : Result :=
  if (s.door g).tested then finish s (if passed then s.loadTestPasses g else s.loadTestFails g) else .next s

/-- The alarm stretch, 2 s (R147). -/
def stretchTicks : Nat := 40

/-- STRETCH_TIMER_EXPIRY: the alarm output is released (R147). -/
def execStretchTimerExpiry (s : State) : Result := match s.control.stretch with
  | none => .next s
  | some t =>
    if s.time.elapsed t stretchTicks then finish s (s.withControl { s.control with alarm := false, stretch := none })
    else .next s

/-! ### The coil supply (R151–R153) -/

/-- 19.0 V and 20.5 V in units of 0.1 V (R151). -/
def lowVolts : Nat := 190
def normalVolts : Nat := 205

/-- What a supply sample brings about (R151). -/
inductive SupplyEvent where
  | low
  | normal
  deriving DecidableEq, Repr

/-- One supply sample (R151). -/
def Supply.sample (p : Supply) (v : Nat) : Supply × Option SupplyEvent := match p.state with
  | .normal =>
    if v < lowVolts then
      (if p.lowRun + 1 < 3 then ({ p with lowRun := p.lowRun + 1 }, none)
       else ({ p with state := .low, lowRun := 0 }, some .low))
    else ({ p with lowRun := 0 }, none)
  | .low =>
    if normalVolts < v then
      (if p.recoveryRun + 1 < 100 then ({ p with recoveryRun := p.recoveryRun + 1 }, none)
       else ({ p with state := .normal, recoveryRun := 0 }, some .normal))
    else ({ p with recoveryRun := 0 }, none)

/-- Supply samples taken up to the first that changes the state: the monitor after it, the change, the samples left. -/
def Supply.feed (p : Supply) : List Nat → Supply × Option SupplyEvent × List Nat
  | [] => (p, none, [])
  | v :: vs =>
    let r := p.sample v
    match r.2 with
    | some e => (r.1, some e, vs)
    | none => r.1.feed vs

/-- The LOW event at the arbiter, the doors and the bells; a stop may be complete with the lines IDLE (R152, R171, R192).
The lines are taken in the order of their numbers (log entry 56). -/
def State.takeLow (s : State) : State :=
  let s := eachGate (fun g s => s.doorLow g) s.emptyArbiter
  let s := eachLine (fun n s => s.lineLow n) s
  (s.withBells { s.bells with freeSends := Vector.replicate 8 none }).stopCheck

/-- The NORMAL event at the doors, in the order of their gates (R153, log entry 67). -/
def State.takeNormal (s : State) : State := eachGate (fun g s => s.beginCycle g) s

/-- Supply samples taken, when the last of them makes the named change, or none makes one (R151). -/
def State.supplyRun (s : State) (named : SupplyEvent) (vs : List Nat) : Result :=
  let r := s.supply.feed vs
  match r.2.1 with
  | none => finish s (s.withSupply r.1)
  | some e =>
    if e = named ∧ r.2.2 = [] then
      finish s (match e with
        | .low => (s.withSupply r.1).takeLow
        | .normal => (s.withSupply r.1).takeNormal)
    else .next s

/-- SUPPLY_LOW (R152). -/
def execSupplyLow (vs : List Nat) (s : State) : Result := s.supplyRun .low vs

/-- SUPPLY_NORMAL (R153). -/
def execSupplyNormal (vs : List Nat) (s : State) : Result := s.supplyRun .normal vs

end Sys2Proof.Machine
end

