-- ==== Sys2Proof/Machine/FieldOrders.lean ====
section
/-! DEFINITION. The orders of the time base, the door drive, the bell sequencer, the control block and the journal writer:
SET TIME (R14), SET GATE (R149), REARM DOOR (R141), FREE PASSAGE (R170), RING (R169), SILENCE BELLS (R168), INSTALL BELL TABLE
(R160), CLEAR STATUS (R198), JOURNAL RESTART (R182). An order that is not in hand is answered by no event: the state stands. -/

namespace Sys2Proof.Machine

/-! ### SET TIME (R14) -/

/-- The order acted on (R14). -/
def State.orderTime (s : State) (h : InHand) : State :=
  if setTimeValid (h.param 0) (h.param 1) (h.param 2) (h.param 3) then
    (s.setClock (h.param 0) (h.param 1) (h.param 2) (h.param 3)).answer [] .done
  else s.answer [] .badParam

/-- SET_TIME (R14). -/
def execSetTime (s : State) : Result := match s.inHandIs .setTime with
  | none => .next s
  | some h => finish s (s.orderTime h)

/-! ### SET GATE (R149) -/

/-- The gate entry that the order carries in its parameters 1 to 5. -/
def InHand.gateEntry (h : InHand) : GateEntry :=
  let w (i : Nat) : Word := h.params.getD i 0
  .ofWords (w 1) (w 2) (w 3) (w 4) (w 5)

/-- Either reader is named by the entry of another gate (R149). -/
def readerTaken (m : Memory) (base n : Nat) (e : GateEntry) : Bool :=
  (List.range 8).any fun k => k != n && e.positions.any fun p => (GateEntry.read m base k).positions.contains p

/-- A channel that holds SET GATE off (R149). -/
def Door.setGateBusy (d : Door) : Bool := d.freePending || match d.state with
  | .claim | .hit | .hold | .closing | .free => true
  | .idle | .outOfService => false

/-- The gate set: entry and line value clamped and written to the gate table, the channel's copy taken, the position map
formed again, the line's new minimum, R130 tested, and the count of clamped values answered (R149). -/
def State.applyGate (s : State) (base : Nat) (n : Gate) (e : GateEntry) (minOn : Nat) : State :=
  let line := clamp 1 20 minOn
  let s := (s.storeAll (base + 20 * n.val) e.clamped.words).store (base + 160 + 4 * n.val) (pack [(0, 5, line)])
  let s := (s.setDoor n ((s.door n).takeParams e)).formMap
  let s := (s.setLine n { s.line n with minOn := line }).beginCycle n
  s.answer [BitVec.ofNat 32 (e.clampCount + bit (line != minOn))] .done

/-- The order acted on (R149). Turned away it has clamped no value, and its output word is 0. -/
def State.setGate (s : State) (h : InHand) : State :=
  let e := h.gateEntry
  match s.control.gateTable with
  | none => s.answer [0] .badParam
  | some base =>
    if hn : h.param 0 < 8 then
      let n : Gate := ⟨h.param 0, hn⟩
      if e.entry.outOfRange || e.exit.outOfRange || (e.entry.position.isSome && e.entry.position == e.exit.position) ||
          readerTaken s.mem base n.val e then s.answer [0] .badParam
      else if (s.door n).setGateBusy then s.answer [0] .busy
      else s.applyGate base n e (h.param 6)
    else s.answer [0] .badParam

/-- SET_GATE (R149). -/
def execSetGate (s : State) : Result := match s.inHandIs .setGate with
  | none => .next s
  | some h => finish s (s.setGate h)

/-! ### REARM DOOR (R141) -/

/-- The order acted on (R141). -/
def State.rearmOrder (s : State) (h : InHand) : State :=
  if hn : h.param 0 < 8 then
    let n : Gate := ⟨h.param 0, hn⟩
    (if (s.door n).overcurrentHold then s.rearm n else s).answer [] .done
  else s.answer [] .badParam

/-- REARM_DOOR (R141). -/
def execRearmDoor (s : State) : Result := match s.inHandIs .rearmDoor with
  | none => .next s
  | some h => finish s (s.rearmOrder h)

/-! ### FREE PASSAGE (R170) -/

/-- A gate refuses the free request of an order: for a reason of R142, or out of RUNNING, where free passage has ended and
STOPPED is to hold no door cycle (R150, R157, log entry 60). -/
def State.refusesFree (s : State) (g : Gate) : Bool := decide (s.control.runState ≠ .running) || (s.freeRefusal g).isSome

/-- A free request to each gate of a mask in ascending order, and the mask of the gates that refused (R170). -/
def State.requestFree (s : State) (mask e : Nat) : State × Nat :=
  gates.foldl (fun acc g =>
    if maskBit mask g.val then
      if acc.1.refusesFree g then (acc.1, acc.2 + 2 ^ g.val) else (acc.1.takeFreeRequest g e, acc.2)
    else acc) (s, 0)

/-- The pending free send dropped and a free end request sent, for each gate of a mask in ascending order (R170, log entry 71). -/
def State.endFree (s : State) (mask : Nat) : State :=
  eachGate (fun g s => if maskBit mask g.val then (s.setFreeSend g none).freeEndRequest g else s) s

/-- The order acted on (R170). Turned away it sends nothing, so no gate refuses and its output word is 0. In hand at the entry
to STOPPING it begins no free passage: every gate of the mask refuses (R157, log entry 60). -/
def State.freePassage (s : State) (h : InHand) : State :=
  let mask := h.param 0
  let window := h.param 1
  if 255 < mask ∨ 1440 < window then s.answer [0] .badParam
  else if window = 0 then (s.endFree mask).answer [0] .done
  else if s.time.clock = .unset then s.answer [0] .busy
  else
    let r := s.requestFree mask ((s.time.absMinute + window) % minuteCycle)
    r.1.answer [BitVec.ofNat 32 r.2] .done

/-- FREE_PASSAGE (R170). -/
def execFreePassage (s : State) : Result := match s.inHandIs .freePassage with
  | none => .next s
  | some h => finish s (s.freePassage h)

/-! ### RING, SILENCE BELLS, INSTALL BELL TABLE (R160, R168, R169) -/

/-- A pattern appended to each line of a mask in ascending order, and the mask of the lines that appended nothing: a full queue,
or every line while the supply is LOW (R169, R173). -/
def State.ringLines (s : State) (mask : Nat) (p : Pattern) : State × Nat :=
  lineNos.foldl (fun acc n =>
    if maskBit mask n.val then
      if acc.1.supply.state = .low then (acc.1.bellNoticeAt .supply none none mask, acc.2 + 2 ^ n.val)
      else (acc.1.appendPattern n p, if patternPlaces ≤ (acc.1.line n).queue.length then acc.2 + 2 ^ n.val else acc.2)
    else acc) (s, 0)

/-- The values of RING are in their ranges (R169). -/
def ringValid (mask pulses onTime gap : Nat) : Bool :=
  decide (mask ≤ 255 ∧ pulses ≤ 15 ∧ 1 ≤ onTime ∧ onTime ≤ 255 ∧ 1 ≤ gap ∧ gap ≤ 255)

/-- The order acted on (R169). It acts only in RUNNING (R173): after the entry to STOPPING no line appends, and the output is the
whole mask (log entry 47). Its output is a free value on BAD_PARAM (log entry 5). -/
def State.ring (s : State) (h : InHand) : State :=
  if ringValid (h.param 0) (h.param 1) (h.param 2) (h.param 3) then
    if s.control.runState = .running then
      let r := s.ringLines (h.param 0)
        { entry := none, pulses := pulsesUsed (h.param 1), onTime := h.param 2, gap := h.param 3, due := none }
      r.1.answer [BitVec.ofNat 32 r.2] .done
    else s.answer [BitVec.ofNat 32 (h.param 0)] .done
  else s.turnAway 1 .badParam

/-- RING (R169). -/
def execRing (s : State) : Result := match s.inHandIs .ring with
  | none => .next s
  | some h => finish s (s.ring h)

/-- Value 0 lifts the silence; another sets its end and cuts every line (R168). -/
def State.silenceFor (s : State) (v : Nat) : State :=
  if v = 0 then s.withBells { s.bells with silenceEnd := none }
  else eachLine (fun n s => s.cutLine n) (s.withBells { s.bells with silenceEnd := some ((s.time.absMinute + v) % minuteCycle) })

/-- The order acted on (R168). It acts only in RUNNING (R173): after the entry to STOPPING it is answered by its rule and changes
nothing (log entry 47). -/
def State.silence (s : State) (h : InHand) : State :=
  let v := h.param 0
  if 1440 < v then s.answer [] .badParam
  else if v ≠ 0 ∧ s.time.clock = .unset then s.answer [] .busy
  else (if s.control.runState = .running then s.silenceFor v else s).answer [] .done

/-- SILENCE_BELLS (R168). -/
def execSilenceBells (s : State) : Result := match s.inHandIs .silenceBells with
  | none => .next s
  | some h => finish s (s.silence h)

/-- The largest bell table. -/
def maxBellEntries : Nat := 128

/-- The order acted on (R160). -/
def State.installBells (s : State) (h : InHand) : State :=
  let base := h.param 0
  let count := h.param 1
  if s.regionFree base (count * bellEntryWords) = false then s.answer [] .badParam
  else if maxBellEntries < count then s.answer [] (.tableInvalid 65535)
  else match bellTableFault s.mem base count with
    | some i => s.answer [] (.tableInvalid i)
    | none => (s.withBells { s.bells with pendingTable := some { base := base, count := count } }).answer [] .done

/-- INSTALL_BELL_TABLE (R160). -/
def execInstallBellTable (s : State) : Result := match s.inHandIs .installBellTable with
  | none => .next s
  | some h => finish s (s.installBells h)

/-! ### CLEAR STATUS, JOURNAL RESTART (R182, R198) -/

/-- The latched flags cleared, OVERCURRENT kept (R148, R198). -/
def DoorFlags.cleared (f : DoorFlags) : DoorFlags := { DoorFlags.clear with overcurrent := f.overcurrent }

/-- The four counts of a position at 0 (R33, R198). -/
def Reader.clearCounts (r : Reader) : Reader := { r with checkErrors := 0, noResponses := 0, frameErrors := 0, stales := 0 }

/-- The words of the status block that hold the fields CLEAR STATUS clears: the flags of each door, the counts of each position,
the mark error count, the journal counts (R198, 13.9). -/
def clearedWords : List Nat :=
  gates.map (fun g => 4 * g.val) ++ positions.flatMap (fun p => [33 + 3 * p.val, 34 + 3 * p.val]) ++ [81, 82]

/-- The words of the status block at some indices written as they stand, while an address is held (R198). -/
def State.rewriteStatus (s : State) (indices : List Nat) : State := match s.control.statusBlock with
  | none => s
  | some a => s.withMem (indices.foldl (fun m i => writeWord m (a + 4 * i) (s.statusWords.getD i 0)) s.mem)

/-- Every section cleared, and the fields cleared written (R184, R198, log entry 48). -/
def State.clearStatus (s : State) : State :=
  let s := eachGate (fun g s => s.setDoor g { s.door g with flags := (s.door g).flags.cleared }) s
  let s := eachPosition (fun p s => s.setReader p (s.reader p).clearCounts) s
  let s := (s.withTime { s.time with markErrors := 0 }).withJournal { s.journal with denialsUnrecorded := 0, noticesLost := 0 }
  s.rewriteStatus clearedWords

/-- CLEAR_STATUS (R198). -/
def execClearStatus (s : State) : Result := match s.inHandIs .clearStatus with
  | none => .next s
  | some _ => finish s (s.clearStatus.answer [] .done)

/-- The journal emptied up to its write position; room is given back (R182). -/
def Journal.restart (j : Journal) : Journal :=
  { j with readPos := j.writePos, used := 0, unreleased := 0, oldestSeq := j.nextSeq, damaged := false, roomGiven := true }

/-- The order acted on (R182). -/
def State.restartJournal (s : State) : State :=
  let n := s.journal.unreleased
  let s := (s.withJournal s.journal.restart).latch fun l => { l with journalDamaged := false }
  s.answer [BitVec.ofNat 32 n] .done

/-- JOURNAL_RESTART (R182). -/
def execJournalRestart (s : State) : Result := match s.inHandIs .journalRestart with
  | none => .next s
  | some _ => finish s s.restartJournal

end Sys2Proof.Machine
end

