-- ==== Sys2Proof/Machine/LineEvents.lean ====
section
/-! DEFINITION. The commands of the time base and of the link controller: TICK, LOCAL_MINUTE_ROLL, MARK (R1–R11), POLL, NO_RESPONSE,
RESPONSE_FRAME (R18–R31). A command whose event cannot occur in a state leaves that state as it is (log entry 10). -/

namespace Sys2Proof.Machine

/-- TICK: 50 ms of the oscillator; where the second passes 59 it is the local minute roll (R1, R9, log entry 21). -/
def execTick (s : State) : Result :=
  if s.time.rollDue then finish s s.minuteRoll else finish s (s.withTime s.time.advance)

/-- LOCAL_MINUTE_ROLL: the 50 ms at which the second count passes 59 (R9). -/
def execLocalMinuteRoll (s : State) : Result := if s.time.rollDue then finish s s.minuteRoll else .next s

/-- MARK: the four bytes of a master clock mark (R3). -/
def execMark (hi lo dow check : Byte) (s : State) : Result := finish s (s.takeMark hi lo dow check)

/-- A poll of an address sent: the exchange in progress, the round moved on, the probe due time set (R18, R19, R20). -/
def State.sendPoll (s : State) (k : LinkNo) (a : Fin 4) : State :=
  let p := positionOf k a
  (s.setLink k { nextAddress := a + 1, exchange := some { address := a, frame := (s.reader p).pollFrame a } }).setReader p
    ((s.reader p).afterPoll s.time.absTick)

/-- POLL: the next poll of a link that has no exchange in progress (R18, R19). -/
def execPoll (k : LinkNo) (s : State) : Result := match (s.link k).exchange, s.nextPoll k with
  | none, some a => finish s (s.sendPoll k a)
  | none, none | some _, _ => .next s

/-- The exchange in progress on a link ends (R20). -/
def State.endExchange (s : State) (k : LinkNo) : State := s.setLink k { s.link k with exchange := none }

/-- NO_RESPONSE: no byte began in the response window (R20, R22). -/
def execNoResponse (k : LinkNo) (s : State) : Result := match (s.link k).exchange with
  | none => .next s
  | some x => finish s ((s.endExchange k).exchangeFails (positionOf k x.address) .noResponse)

/-- A response frame judged (R22). -/
def State.takeFrame (s : State) (p : Fin 16) (address : Fin 4) (bytes : List Byte) (stopBits : Bool) : State :=
  match judgeFrame address bytes stopBits with
  | .inl f => s.exchangeFails p f
  | .inr x => s.goodResponse p x

/-- RESPONSE_FRAME: the end of a response frame (R20, R22). -/
def execResponseFrame (k : LinkNo) (bytes : List Byte) (stopBits : Bool) (s : State) : Result := match (s.link k).exchange with
  | none => .next s
  | some x => finish s ((s.endExchange k).takeFrame (positionOf k x.address) x.address bytes stopBits)

end Sys2Proof.Machine
end

