-- ==== Sys2Proof/Machine/Punches.lean ====
section
/-! DEFINITION. The commands of the attendance engine on presentations and punches: the judgement (R66–R79) and the commits
(R82–R87). -/

namespace Sys2Proof.Machine

/-! ### The judgement of a presentation (R66–R77) -/

/-- The gate entry of a gate in the gate table (R66); one of zeros while the part holds no gate table. -/
def State.gateEntry (s : State) (g : Gate) : GateEntry := match s.control.gateTable with
  | none => .ofWords 0 0 0 0 0
  | some base => GateEntry.read s.mem base g.val

/-- The direction by role (R66). -/
def Role.direction : Role → Direction
  | .entry => .inward
  | .exit => .outward

/-- The direction of a presentation whose worker is found: by role in TWO_READER, by presence in ONE_READER
(R66, R68; log entry 6 for a code that names no presence). -/
def State.directionFor (s : State) (p : Presentation) (w : Worker) : Direction × State :=
  if (s.gateEntry p.gate).oneReader then
    match w.presence with
    | .inside => (.outward, s)
    | .outside | .unknown => (.inward, s)
    | .reserved => (if Config.reservedPresenceIsIn s.freeUsed then .inward else .outward, { s with freeUsed := s.freeUsed + 1 })
  else (p.role.direction, s)

/-- The direction that the DENIAL of an unknown badge carries (R68, R71). -/
def State.directionUnknown (s : State) (p : Presentation) : Direction :=
  if (s.gateEntry p.gate).oneReader then .inward else p.role.direction

/-- The door, or the supply, turns a presentation away at step 6 (R72). -/
def State.doorFaulted (s : State) (g : Gate) : Bool :=
  (s.door g).state == .outOfService || !(s.door g).equipped || s.supply.state == .low

/-- A repeat at the same reader within the repeat window (R73). -/
def isRepeat (window : Nat) (w : Worker) (p : Presentation) : Bool := match w.lastStamp, p.stamp with
  | some last, some now =>
    decide (0 < window ∧ w.lastReader = some p.position.val) && decide (ahead secondCycle last.abs now.abs ≤ window)
  | _, _ => false

/-- How a presentation whose badge is found is judged (R67). -/
inductive Verdict where
  | denied (reason : DenialReason)
  | recorded
  | wait
  | accepted (passbackSoft : Bool)
  deriving DecidableEq, Repr

/-- Steps 4 to 12, the first whose condition holds giving the verdict (R67, R72–R77). At a door in FREE whose 4 entries, reported
free, still await their commits, step 11 answers WAIT (log entry 44). -/
def State.verdict (s : State) (p : Presentation) (w : Worker) (d : Direction) : Verdict :=
  if w.suspended then .denied .suspended
  else if !maskBit w.mask p.gate.val then .denied .gateNotPermitted
  else if s.doorFaulted p.gate then .denied .doorFault
  else if isRepeat (s.gateEntry p.gate).repeatWindow w p then .recorded
  else if w.inFlight.isSome then .wait
  else if d = .inward ∧ w.presence = .inside ∧ w.exempt = false then .denied .passback
  else if d = .inward ∧ w.windowEnforced = true ∧ s.finding w.group p.stamp = none then .denied .offWindow
  else if 4 ≤ (s.queue p.gate).length then .wait
  else .accepted (d = .outward ∧ w.presence = .outside)

/-- A DENIAL: its record from the reservation, the rest returned, DENY at the reader (R78, R79). -/
def State.deny (s : State) (p : Presentation) (d : Direction) (reason : DenialReason) : State :=
  (s.spend punchWords [denialRecord p d reason]).indicate p.position .deny reason.code

/-- RECORDED or WAIT from step 3 on: the reservation returned, no record (R73, R74, R77, R78). -/
def State.turnBack (s : State) (p : Presentation) (code : IndCode) : State := (s.spend punchWords []).indicate p.position code 0

/-- A punch as acceptance appends it (R80). -/
def newPunch (p : Presentation) (ref : WorkerRef) (d : Direction) (soft : Bool) : Punch :=
  { worker := ref, direction := d, position := p.position, stamp := p.stamp, passbackSoft := soft, noMove := false, report := none }

/-- Acceptance: the last accepted presentation; then the commit at once at a door in FREE, else the in-flight gate and the
entry at the tail; then ACCEPT (R77, R78, R87). -/
def State.accept (s : State) (p : Presentation) (ref : WorkerRef) (d : Direction) (soft : Bool) : State :=
  let w := { s.worker ref with lastReader := some p.position.val, lastStamp := p.stamp }
  let s :=
    if (s.door p.gate).state = .free then
      let s := s.setWorker ref w
      match d with
      | .inward => s.commitInward ref p.stamp p.gate p.position false true
      | .outward => s.commitOutward ref p.stamp p.gate p.position soft false true
    else
      let s := s.setWorker ref { w with inFlight := some p.gate.val }
      (s.setQueue p.gate (s.queue p.gate ++ [newPunch p ref d soft])).beginCycle p.gate
  s.indicate p.position .accept 0

/-- Steps 3 to 12, with the reservation of step 2 held (R67). -/
def State.judgeWithRoom (s : State) (p : Presentation) : State := match s.lookup p.badge with
  | none => s.deny p (s.directionUnknown p) .unknownBadge
  | some ref =>
    let w := s.worker ref
    let r := s.directionFor p w
    match r.2.verdict p w r.1 with
    | .denied reason => r.2.deny p r.1 reason
    | .recorded => r.2.turnBack p .recorded
    | .wait => r.2.turnBack p .wait
    | .accepted soft => r.2.accept p ref r.1 soft

/-- The judgement of a presentation (R67, R69, R70). -/
def State.judge (s : State) (p : Presentation) : State :=
  if s.control.runState = .running then
    let r := s.requestPresentation
    if r.1 then r.2.judgeWithRoom p else r.2.indicate p.position .wait 0
  else s.indicate p.position .wait 0

/-- PRESENTATION: one of the presentations handed over is judged; which of them first is left open (R66, log entry 24). -/
def execPresentation (n : Nat) (s : State) : Result := match s.engine.handed[n]? with
  | none => .next s
  | some p => finish s ((s.withEngine { s.engine with handed := s.engine.handed.eraseIdx n }).judge p)

/-! ### Commits (R82–R87) -/

/-- The head of a queue with the outcome reported for it, when there is one (R81). -/
def State.reportedHead (s : State) (g : Gate) : Option (Punch × PassageReport) := match s.queue g with
  | [] => none
  | p :: _ => p.report.map fun o => (p, o)

/-- A commit ends: the punch leaves its queue, and a stop may be complete (R82, R192). -/
def State.committed (s : State) (g : Gate) : State := (s.dropHead g).stopCheck

/-- COMMIT_IN: an IN reported PASSED or free (R83, R87). -/
def execCommitIn (g : Gate) (s : State) : Result := match s.reportedHead g with
  | some (p, .passed) =>
    if p.direction = .inward then finish s ((s.commitInward p.worker p.stamp g p.position p.noMove false).committed g) else .next s
  | some (p, .free) =>
    if p.direction = .inward then finish s ((s.commitInward p.worker p.stamp g p.position p.noMove true).committed g) else .next s
  | some (_, .notPassed) | some (_, .voided _) | none => .next s

/-- COMMIT_OUT: an OUT reported PASSED or free (R84, R87). -/
def execCommitOut (g : Gate) (s : State) : Result := match s.reportedHead g with
  | some (p, .passed) =>
    if p.direction = .outward then
      finish s ((s.commitOutward p.worker p.stamp g p.position p.passbackSoft p.noMove false).committed g)
    else .next s
  | some (p, .free) =>
    if p.direction = .outward then
      finish s ((s.commitOutward p.worker p.stamp g p.position p.passbackSoft p.noMove true).committed g)
    else .next s
  | some (_, .notPassed) | some (_, .voided _) | none => .next s

/-- COMMIT_NOT_PASSED (R85). -/
def execCommitNotPassed (g : Gate) (s : State) : Result := match s.reportedHead g with
  | some (p, .notPassed) => finish s ((s.commitEnded g p none).committed g)
  | some (_, .passed) | some (_, .free) | some (_, .voided _) | none => .next s

/-- COMMIT_VOIDED (R86). -/
def execCommitVoided (g : Gate) (s : State) : Result := match s.reportedHead g with
  | some (p, .voided cause) => finish s ((s.commitEnded g p (some cause)).committed g)
  | some (_, .passed) | some (_, .free) | some (_, .notPassed) | none => .next s

end Sys2Proof.Machine
end

