-- ==== Sys2Proof/Machine/WorkerOrders.lean ====
section
/-! DEFINITION. The orders of the attendance engine and the pay calculator, and the events of an install and of TAKE TOTALS:
INSTALL WORKER TABLE (R42–R47), AMEND WORKER (R50), SET PRESENCE (R51, R52), TAKE TOTALS (R125, R126), SETTLE EXCEPTION (R118),
INSTALL SHIFT TABLE (R58), and SWEEP_TEST (R120). An order that is not in hand is answered by no event: the state stands. -/

namespace Sys2Proof.Machine

/-! ### SWEEP_TEST (R120) -/

/-- SWEEP_TEST: a running sweep tests the worker at its cursor (R120, R124). -/
def execSweepTest (s : State) : Result :=
  if s.control.runState = .running ∧ s.engine.sweep = .running then finish s s.sweepStep else .next s

/-! ### INSTALL WORKER TABLE (R42) -/

/-- The largest worker table. -/
def maxWorkers : Nat := 8192

/-- The index of a table-level failure (R42, R48, R160, R189). -/
def noIndex : Nat := 65535

/-- The check of a new record, from VERIFY (R42). -/
def recordPasses (m : Memory) (t : Table) (i : Nat) : Bool :=
  let w := Worker.read m (({ base := t.base, index := i } : WorkerRef).address)
  decide (1 ≤ w.badge ∧ w.badge ≤ 4294967294 ∧ w.group ≤ 31 ∧ w.rule ≤ 15 ∧ w.rate ≤ 1048575) &&
    (decide (i = 0) || decide (badgeAt m t.base (i - 1) < w.badge))

/-- The parameter check, and the entry to VERIFY (R42). -/
def State.installBegin (s : State) (h : InHand) : State :=
  let base := h.param 0
  let count := h.param 1
  if base % 4 ≠ 0 then s.turnAway 3 .badParam
  else if count = 0 ∨ maxWorkers < count then s.turnAway 3 (.tableInvalid noIndex)
  else if s.regionFree base (count * workerWords) = false then s.turnAway 3 .badParam
  else if h.aborted then s.turnAway 3 (.aborted 0)
  else s.withEngine { s.engine with install := .verify { base := base, count := count } 0 }

/-- INSTALL_WORKER_TABLE (R42). -/
def execInstallWorkerTable (s : State) : Result := match s.inHandIs .installWorkerTable with
  | none => .next s
  | some h => if s.engine.install = .idle then finish s (s.installBegin h) else .next s

/-- One new record checked: it is given fresh live fields, or VERIFY ends TABLE_INVALID (R42). -/
def State.verifyRecord (s : State) (t : Table) (i : Nat) : State :=
  if recordPasses s.mem t i then
    let a := ({ base := t.base, index := i } : WorkerRef).address
    let s := s.storeAll (a + 16) (Worker.read s.mem a).fresh.liveWords
    s.withEngine { s.engine with install := .verify t (i + 1) }
  else s.endInstall (.tableInvalid i)

/-- VERIFY_NEXT_RECORD (R42). -/
def execVerifyNextRecord (s : State) : Result := match s.inHandIs .installWorkerTable, s.engine.install with
  | some _, .verify t i => if i < t.count then finish s (s.verifyRecord t i) else .next s
  | some _, .idle | some _, .carry _ | none, _ => .next s

/-- The carry at its entry: the cursor none, nothing stepped (R43). -/
def Carry.start (t : Table) : Carry :=
  { table := t, oldNext := 0, newNext := 0, cursor := none, matchedSteps := 0, oldOnlySteps := 0, newOnlySteps := 0,
    paused := false }

/-- CARRY_BEGIN: VERIFY has passed every record, and no closing sweep is running or paused (R43). -/
def execCarryBegin (s : State) : Result := match s.engine.install with
  | .verify t i =>
    if t.count ≤ i ∧ s.engine.sweep = .idle then
      finish s (s.withEngine { s.engine with install := .carry (Carry.start t) })
    else .next s
  | .idle | .carry _ => .next s

/-- The next badge of a carry that is under way, with both tables. -/
def State.carrying (s : State) : Option (Table × Carry × CarryNext) := match s.engine.workers, s.engine.install with
  | some old, .carry c => some (old, c, s.carryNext old c)
  | _, _ => none

/-- MATCHED_STEP (R44). -/
def execMatchedStep (s : State) : Result := match s.carrying with
  | some (old, c, .both b) => finish s (s.matchStep old c b)
  | some (_, _, .oldOnly _) | some (_, _, .newOnly _) | some (_, _, .finished) | none => .next s

/-- OLD_ONLY_STEP (R45); a paused walk tries again only where room is given back (R176). -/
def execOldOnlyStep (s : State) : Result := match s.carrying with
  | some (old, c, .oldOnly b) => if c.paused then .next s else finish s (s.oldOnlyTry old c b)
  | some (_, _, .both _) | some (_, _, .newOnly _) | some (_, _, .finished) | none => .next s

/-- NEW_ONLY_STEP (R46). -/
def execNewOnlyStep (s : State) : Result := match s.carrying with
  | some (old, c, .newOnly b) =>
    finish s (s.carryTaken old { c with newNext := c.newNext + 1, cursor := some b, newOnlySteps := c.newOnlySteps + 1 })
  | some (_, _, .both _) | some (_, _, .oldOnly _) | some (_, _, .finished) | none => .next s

/-! ### AMEND WORKER (R50) -/

/-- The values are in their ranges (R50, R201). -/
def amendValid (group rule rate mask flags : Nat) : Bool :=
  decide (group ≤ 31 ∧ rule ≤ 15 ∧ rate ≤ 1048575 ∧ mask ≤ 255 ∧ flags ≤ 31)

/-- The static fields replaced (R50). -/
def Worker.amend (w : Worker) (number group rule rate mask flags : Nat) : Worker :=
  { w with number := number, group := group, rule := rule, rate := rate, mask := mask, suspended := maskBit flags 0,
           exempt := maskBit flags 1, early := maskBit flags 2, windowEnforced := maskBit flags 3, noPay := maskBit flags 4 }

/-- The order acted on (R50). -/
def State.amend (s : State) (h : InHand) : State :=
  if amendValid (h.param 2) (h.param 3) (h.param 4) (h.param 5) (h.param 6) = false then s.answer [] .badParam
  else match s.lookup (h.param 0) with
    | none => s.answer [] .notFound
    | some ref =>
      (s.setWorker ref ((s.worker ref).amend (h.param 1) (h.param 2) (h.param 3) (h.param 4) (h.param 5) (h.param 6))).answer
        [] .done

/-- AMEND_WORKER (R50). -/
def execAmendWorker (s : State) : Result := match s.inHandIs .amendWorker with
  | none => .next s
  | some h => finish s (s.amend h)

/-! ### SET PRESENCE (R51, R52) -/

/-- A SET PRESENCE that reaches no record: presence before and close outcome free values, busy cause NONE (log entry 5). -/
def State.presenceUnmet (s : State) (r : OrderResult) : State :=
  let f := State.freeWords 2 s
  f.2.answer (f.1 ++ [0]) r

/-- A BUSY answer: the presence before, the close outcome NOT_ASKED without a close asked and else a free value, the busy
cause 1 IN_FLIGHT or 2 NO_ROOM (R51, 13.8, log entry 5). -/
def State.presenceBusy (s : State) (w : Worker) (option cause : Nat) : State :=
  let outcome := if option = 0 then ((0 : Word), s) else s.takeFree
  outcome.2.answer [BitVec.ofNat 32 w.presence.code, outcome.1, BitVec.ofNat 32 cause] .busy

/-- A DONE answer with its close outcome: 0 NOT_ASKED, 1 NO_OPEN_IN, 2 CLOSED (R51, 13.8). -/
def State.presenceDone (s : State) (before : Presence) (outcome : Nat) : State :=
  s.answer [BitVec.ofNat 32 before.code, BitVec.ofNat 32 outcome, 0] .done

/-- The order acted on (R51, R52). -/
def State.setPresence (s : State) (h : InHand) : State :=
  let value := h.param 1
  let option := h.param 2
  if 2 < value ∨ 1 < option then s.presenceUnmet .badParam
  else match s.lookup (h.param 0) with
    | none => s.presenceUnmet .notFound
    | some ref =>
      let w := s.worker ref
      let p := Presence.ofCode value
      if w.inFlight.isSome then s.presenceBusy w option 1
      else if option = 0 then (s.setWorker ref { w with presence := p }).presenceDone w.presence 0
      else match w.openIn with
        | none => (s.setWorker ref { w with presence := p }).presenceDone w.presence 1
        | some o =>
          let r := s.requestClose punchWords
          if r.1 then
            (r.2.closePair ref o .host s.time.stamp o.gate noReader {} fun w =>
              { w with presence := p, openIn := none }).presenceDone w.presence 2
          else r.2.presenceBusy w option 2

/-- SET_PRESENCE (R51, R52). -/
def execSetPresence (s : State) : Result := match s.inHandIs .setPresence with
  | none => .next s
  | some h => finish s (s.setPresence h)

/-! ### TAKE TOTALS (R125, R126) -/

/-- The words of a totals entry (13.6). -/
def totalsWords : Nat := 8

/-- The totals entry of a worker (R125, 13.6). -/
def Worker.totalsEntry (w : Worker) : List Word :=
  [ BitVec.ofNat 32 w.badge, BitVec.ofNat 32 w.number, pack [(0, 16, w.regular), (16, 16, w.overtime)],
    pack [(0, 16, w.night), (16, 16, w.pairs)], BitVec.ofNat 32 w.amount,
    pack [(0, 1, bit w.saturated), (1, 1, bit (decide (0 < w.pendingCount)))], 0, 0 ]

/-- A worker whose totals have been taken (R126). -/
def Worker.totalsTaken (w : Worker) : Worker :=
  { w with regular := 0, overtime := 0, night := 0, amount := 0, pairs := 0, saturated := false }

/-- The parameter check of TAKE TOTALS, and its beginning (R125). -/
def State.totalsBegin (s : State) (h : InHand) : State :=
  let first := h.param 0
  let count := h.param 1
  let dest := h.param 2
  let live := match s.engine.workers with
    | none => 0
    | some t => t.count
  if count = 0 ∨ live < first + count ∨ s.regionFree dest (count * totalsWords) = false then s.turnAway 1 .badParam
  else s.withEngine { s.engine with
    takeTotals := some { first := first, count := count, dest := dest, taken := 0, unsettled := 0 } }

/-- TAKE_TOTALS (R125). -/
def execTakeTotals (s : State) : Result := match s.inHandIs .takeTotals with
  | none => .next s
  | some h => if s.engine.takeTotals = none then finish s (s.totalsBegin h) else .next s

/-- The next worker of the range taken; after the last, the count of UNSETTLED entries and DONE (R126). -/
def State.takeWorker (s : State) (t : Table) (x : TakeTotals) : State :=
  let ref : WorkerRef := { base := t.base, index := x.first + x.taken }
  let w := s.worker ref
  let s := (s.storeAll (x.dest + 4 * totalsWords * x.taken) w.totalsEntry).setWorker ref w.totalsTaken
  let x := { x with taken := x.taken + 1, unsettled := x.unsettled + bit (decide (0 < w.pendingCount)) }
  if x.count ≤ x.taken then
    (s.withEngine { s.engine with takeTotals := none }).answer [BitVec.ofNat 32 x.unsettled] .done
  else s.withEngine { s.engine with takeTotals := some x }

/-- TAKE_TOTALS_WORKER (R126). -/
def execTakeTotalsWorker (s : State) : Result := match s.engine.workers, s.engine.takeTotals with
  | some t, some x => finish s (s.takeWorker t x)
  | _, _ => .next s

/-! ### SETTLE EXCEPTION (R118) -/

/-- The four values of a CREDIT lie in the ranges of their totals; the amount parameter is a word, as its total is (R118). -/
def settleValid (regular overtime night : Nat) : Bool := decide (regular ≤ 65535 ∧ overtime ≤ 65535 ∧ night ≤ 65535)

/-- A sum of a CREDIT passes the maximum of its total (R118). -/
def Worker.settleSaturates (w : Worker) (regular overtime night amount : Nat) : Bool :=
  decide (65535 < w.regular + regular ∨ 65535 < w.overtime + overtime ∨ 65535 < w.night + night ∨
    amountMax < w.amount + amount ∨ 65535 < w.pairs + 1)

/-- The pending count one down, held at 0 (R118). -/
def Worker.settled (w : Worker) : Worker := { w with pendingCount := w.pendingCount - 1 }

/-- The worker after a CREDIT (R118). -/
def Worker.settleCredit (w : Worker) (regular overtime night amount : Nat) : Worker :=
  { w.settled with regular := min 65535 (w.regular + regular), overtime := min 65535 (w.overtime + overtime),
                   night := min 65535 (w.night + night), amount := min amountMax (w.amount + amount),
                   pairs := min 65535 (w.pairs + 1),
                   saturated := w.saturated || w.settleSaturates regular overtime night amount }

/-- The output words written, then the slot FREE, then the worker record, then the result (R118). -/
def State.settle (s : State) (h : InHand) (slot badge : Nat) (sat : Bool) (worker : Option (WorkerRef × Worker)) : State :=
  let s := s.storeAll (s.orders.current + 12 + 4 * h.params.length) [BitVec.ofNat 32 badge, BitVec.ofNat 32 (bit sat)]
  let s := s.store slot 0
  let s := match worker with
    | none => s
    | some x => s.setWorker x.1 x.2
  s.finishBlock h.link .done

/-- The badge a slot index names: that of a PENDING slot below the slot count, else 0 (R118, log entry 26). -/
def State.namedBadge (s : State) (slot : Nat) : Nat := match s.engine.exceptions with
  | none => 0
  | some t => if slot < t.count ∧ slotState s.mem t slot ≠ 0 then slotBadge s.mem t slot else 0

/-- The order acted on (R118). Choice 1 is CREDIT, 2 DISCARD (13.8). A slot whose state word is above 1 is taken as PENDING
(log entry 45). -/
def State.settleException (s : State) (h : InHand) : State :=
  let slot := h.param 0
  let choice := h.param 1
  let badge := s.namedBadge slot
  let refuse (r : OrderResult) := s.answer [BitVec.ofNat 32 badge, 0] r
  match s.engine.exceptions with
  | none => refuse .badParam
  | some t =>
    if t.count ≤ slot ∨ (choice ≠ 1 ∧ choice ≠ 2) ∨ (choice = 1 ∧ settleValid (h.param 2) (h.param 3) (h.param 4) = false) then
      refuse .badParam
    else if slotState s.mem t slot = 0 then refuse .badParam
    else
      let found := s.lookup badge
      if choice = 1 then
        match found with
        | none => refuse .notFound
        | some ref =>
          let w := s.worker ref
          s.settle h (slotAddress t slot) badge (w.settleSaturates (h.param 2) (h.param 3) (h.param 4) (h.param 5))
            (some (ref, w.settleCredit (h.param 2) (h.param 3) (h.param 4) (h.param 5)))
      else s.settle h (slotAddress t slot) badge false (found.map fun ref => (ref, (s.worker ref).settled))

/-- SETTLE_EXCEPTION (R118). -/
def execSettleException (s : State) : Result := match s.inHandIs .settleException with
  | none => .next s
  | some h => finish s (s.settleException h)

/-! ### INSTALL SHIFT TABLE (R58) -/

/-- The order acted on (R58). -/
def State.installShift (s : State) (h : InHand) : State :=
  let a := h.param 0
  if s.regionFree a shiftTableWords = false then s.answer [] .badParam
  else match shiftTableFault s.mem a with
    | some i => s.answer [] (.tableInvalid i)
    | none => (s.withEngine { s.engine with shift := some a }).answer [] .done

/-- INSTALL_SHIFT_TABLE (R58). -/
def execInstallShiftTable (s : State) : Result := match s.inHandIs .installShiftTable with
  | none => .next s
  | some h => finish s (s.installShift h)

end Sys2Proof.Machine
end

