-- ==== Sys2Proof/Machine/Dispatch.lean ====
section
/-! DEFINITION. The effect of a command on everything but the queue: one arm per constructor. -/

namespace Sys2Proof.Machine

def exec (i : Instr) (s : State) : Host.Outcome State Fault Refusal :=
  match i with
  | .powerUp supply => Sys2Proof.Machine.execPowerUp supply s
  | .hostRestart => Sys2Proof.Machine.execHostRestart s
  | .tick => Sys2Proof.Machine.execTick s
  | .localMinuteRoll => Sys2Proof.Machine.execLocalMinuteRoll s
  | .mark hi lo dow check => Sys2Proof.Machine.execMark hi lo dow check s
  | .poll link => Sys2Proof.Machine.execPoll link s
  | .noResponse link => Sys2Proof.Machine.execNoResponse link s
  | .responseFrame link bytes stopBits => Sys2Proof.Machine.execResponseFrame link bytes stopBits s
  | .presentation n => Sys2Proof.Machine.execPresentation n s
  | .commitIn g => Sys2Proof.Machine.execCommitIn g s
  | .commitOut g => Sys2Proof.Machine.execCommitOut g s
  | .commitNotPassed g => Sys2Proof.Machine.execCommitNotPassed g s
  | .commitVoided g => Sys2Proof.Machine.execCommitVoided g s
  | .sweepTest => Sys2Proof.Machine.execSweepTest s
  | .orderPointerWrite w => Sys2Proof.Machine.execOrderPointerWrite w s
  | .orderBlock => Sys2Proof.Machine.execOrderBlock s
  | .setTime => Sys2Proof.Machine.execSetTime s
  | .installWorkerTable => Sys2Proof.Machine.execInstallWorkerTable s
  | .carryBegin => Sys2Proof.Machine.execCarryBegin s
  | .matchedStep => Sys2Proof.Machine.execMatchedStep s
  | .oldOnlyStep => Sys2Proof.Machine.execOldOnlyStep s
  | .newOnlyStep => Sys2Proof.Machine.execNewOnlyStep s
  | .amendWorker => Sys2Proof.Machine.execAmendWorker s
  | .setPresence => Sys2Proof.Machine.execSetPresence s
  | .takeTotals => Sys2Proof.Machine.execTakeTotals s
  | .takeTotalsWorker => Sys2Proof.Machine.execTakeTotalsWorker s
  | .settleException => Sys2Proof.Machine.execSettleException s
  | .installShiftTable => Sys2Proof.Machine.execInstallShiftTable s
  | .installBellTable => Sys2Proof.Machine.execInstallBellTable s
  | .setGate => Sys2Proof.Machine.execSetGate s
  | .rearmDoor => Sys2Proof.Machine.execRearmDoor s
  | .freePassage => Sys2Proof.Machine.execFreePassage s
  | .ring => Sys2Proof.Machine.execRing s
  | .silenceBells => Sys2Proof.Machine.execSilenceBells s
  | .clearStatus => Sys2Proof.Machine.execClearStatus s
  | .journalRestart => Sys2Proof.Machine.execJournalRestart s
  | .controlWrite w => Sys2Proof.Machine.execControlWrite w s
  | .memoryFault cut => Sys2Proof.Machine.execMemoryFault cut s
  | .attentionWrite w => Sys2Proof.Machine.execAttentionWrite w s
  | .attentionEnableWrite w => Sys2Proof.Machine.execAttentionEnableWrite w s
  | .registerWrite r w => Sys2Proof.Machine.execRegisterWrite r w s
  | .stretchTimerExpiry => Sys2Proof.Machine.execStretchTimerExpiry s
  | .valleyComplete g samples => Sys2Proof.Machine.execValleyComplete g samples s
  | .hitEnd g samples => Sys2Proof.Machine.execHitEnd g samples s
  | .openTimerExpiry g => Sys2Proof.Machine.execOpenTimerExpiry g s
  | .resistanceWindow g samples => Sys2Proof.Machine.execResistanceWindow g samples s
  | .contactOpening g samples => Sys2Proof.Machine.execContactOpening g samples s
  | .contactClosing g samples => Sys2Proof.Machine.execContactClosing g samples s
  | .heldOpen g => Sys2Proof.Machine.execHeldOpen g s
  | .overcurrent g samples => Sys2Proof.Machine.execOvercurrent g samples s
  | .openLoadTest g passed => Sys2Proof.Machine.execOpenLoadTest g passed s
  | .supplyLow samples => Sys2Proof.Machine.execSupplyLow samples s
  | .supplyNormal samples => Sys2Proof.Machine.execSupplyNormal samples s
  | .pendingFreeSendDue g => Sys2Proof.Machine.execPendingFreeSendDue g s
  | .bellClaim n => Sys2Proof.Machine.execBellClaim n s
  | .pulseStart n => Sys2Proof.Machine.execPulseStart n s
  | .bellSlotRelease n => Sys2Proof.Machine.execBellSlotRelease n s
  | .pulseEnd n => Sys2Proof.Machine.execPulseEnd n s
  | .settleEnd n => Sys2Proof.Machine.execSettleEnd n s
  | .releaseWalk => Sys2Proof.Machine.execReleaseWalk s
  | .damageRecheck => Sys2Proof.Machine.execDamageRecheck s
  | .journalHoldExpiry => Sys2Proof.Machine.execJournalHoldExpiry s
  | .startChecksDone => Sys2Proof.Machine.execStartChecksDone s
  | .verifyNextRecord => Sys2Proof.Machine.execVerifyNextRecord s
  | .contactTaken g samples => Sys2Proof.Machine.execContactTaken g samples s
  | .moved g samples => Sys2Proof.Machine.execMoved g samples s

end Sys2Proof.Machine
end

