-- ==== Sys2Proof/Safety.lean ====
section
/-! DEFINITION. What a safe run of the part keeps, in the terms the statements use: the laws that the spec names (R80, R146,
R154, R158, R175), the ranges of the counts (R1), the alarm (R147), and how every event ends (R147, R198). -/

namespace Sys2Proof.Machine

/-! ### How every event ends -/

/-- A byte of common memory outside the status block (R198). -/
def State.offStatus (s : State) (a : Nat) : Prop :=
  ∀ b, s.control.statusBlock = some b → a < b ∨ b + 4 * statusWordCount ≤ a

/-- `t` is `u` as an event ends it, but for the bytes that `written` names: everything of `u` but the alarm output with its
stretch timer (R147), the words of the status block (R198), and those bytes. -/
def EndsBut (u t : State) (written : Nat → Prop) : Prop :=
  t = { u with control := { u.control with alarm := t.control.alarm, stretch := t.control.stretch }, mem := t.mem } ∧
    ∀ a, u.offStatus a → ¬ written a → readByte t.mem a = readByte u.mem a

/-- `t` is `u` as an event ends it: everything of `u` but the alarm output with its stretch timer and the words of the status
block (R147, R198). -/
def EndsAs (u t : State) : Prop := EndsBut u t fun _ => False

/-- The bytes of `n` words from an address. -/
def wordsAt (a n : Nat) (x : Nat) : Prop := a ≤ x ∧ x < a + 4 * n

/-- None of the `n` words from an address is a word of the status block. -/
def State.apartFromStatus (s : State) (a n : Nat) : Prop := ∀ x, wordsAt a n x → s.offStatus x

/-- The room of `n` notices is there, so that each is written at once with no release walk before it (R175). -/
def State.noticeRoom (s : State) (n : Nat) : Prop := s.journal.region.isSome = true → 4 * n ≤ s.journal.freeWords

/-- Between two events no room waits to be offered: every event offers at its end the room it gave back (R176). -/
abbrev State.betweenEvents (s : State) : Prop := s.journal.roomGiven = false

/-! ### The time base (R1, R2) -/

/-- Every count of the time base lies in its range (R1). -/
def TimeBase.inRange (t : TimeBase) : Prop :=
  t.tick < 20 ∧ t.second < 60 ∧ t.minute < 1440 ∧ t.day < 65535 ∧ t.dow < 7

/-! ### The hit slot and the coils (R146, R154, R158) -/

/-- A claimant is never both the holder and in the list, and appears in the list once at most (R154). -/
def Arbiter.onceEach (a : Arbiter) : Prop := a.requests.Nodup ∧ ∀ c, a.holder = some c → c ∉ a.requests

/-- Every coil in its hit phase, and every line granted the slot and not yet in its pulse, is the holder (R158, R166). The hit
phase of a line lasts from its pulse start to its release of the slot. -/
def State.slotLaw (s : State) : Prop :=
  s.arbiter.onceEach ∧ (∀ g, (s.door g).state = .hit → s.arbiter.holder = some (.door g)) ∧
    (∀ n, (s.line n).releaseAt.isSome = true → s.arbiter.holder = some (.line n)) ∧
    ∀ n, (s.line n).state = .claim →
      (s.line n).releaseAt = none ∧ ((s.line n).granted = true → s.arbiter.holder = some (.line n))

/-- The slot is held, and by no free cycle that the entry to STOPPING ends (R150, R155). -/
def State.slotStays (s : State) : Prop :=
  ∃ c, s.arbiter.holder = some c ∧ ∀ g, c = .door g → (s.door g).state = .hit ∧ (s.door g).cycle = .punch

/-- `u` is `s` with the slot released by its holder: free where no one waits, else passed to the head of the list, which leaves the list
and takes its grant, a door as the start of its hit, a line by setting granted (R131, R155, R156, R166). -/
def State.slotPasses (s u : State) : Prop :=
  s.arbiter.requests = [] ∧ u = { s with arbiter := { holder := none, requests := [] } } ∨
    ∃ c cs, s.arbiter.requests = c :: cs ∧ s.supply.state = .normal ∧ s.control.runState ≠ .faulted ∧
      let v : State := { s with arbiter := { holder := some c, requests := cs } }
      ((∃ h, c = .door h ∧ (s.door h).state = .claim ∧ u = v.setDoor h { s.door h with
          state := .hit, overRun := 0, movement := { Movement.cleared with openAtStart := (s.door h).contact == .opened } }) ∨
        ∃ k, c = .line k ∧ (s.line k).state = .claim ∧ u = v.setLine k { s.line k with granted := true })

/-- While the supply is LOW no channel is in a cycle and every line is IDLE, so no coil is energised (R146, R171). -/
def State.driveLaw (s : State) : Prop :=
  s.supply.state = .low →
    (∀ g, (s.door g).state = .idle ∨ (s.door g).state = .closing ∨ (s.door g).state = .outOfService) ∧
      ∀ n, (s.line n).state = .idle

/-- A free request is pending only at an equipped channel, in NORMAL supply, while a punch cycle or CLOSING goes on
(R130, R142, R146). Out of RUNNING there is no free passage: no window, no pending request or send, no free cycle (R150, R157,
R172). -/
def State.freeLaw (s : State) : Prop :=
  (∀ g, (s.door g).freePending = true → (s.door g).equipped = true ∧ s.supply.state = .normal ∧
    (((s.door g).state = .claim ∨ (s.door g).state = .hit) ∧ (s.door g).cycle = .punch ∨ (s.door g).state = .hold ∨
      (s.door g).state = .closing)) ∧
    (s.control.runState ≠ .running → ∀ g, (s.door g).freePending = false ∧ (s.door g).freeEnd = none ∧ s.freeSend g = none ∧
      (s.door g).state ≠ .free ∧ ((s.door g).state = .claim ∨ (s.door g).state = .hit → (s.door g).cycle = .punch))

/-- The channel with the measures of its hit written, once in each hit: the peak, and with MOVED the valley, the reaction time and the
travel time from the peak to the valley (R132). -/
def Door.measured (d : Door) : Door :=
  let m := d.movement
  if m.written then d
  else { d with
    movement := { m with written := true },
    measures := if m.moved then
        { peak := m.peak, valley := some m.valley, reaction := some m.valleyTime, travel := some (m.valleyTime - m.peakTime) }
      else { peak := m.peak, valley := none, reaction := none, travel := none } }

/-- The channel after it has taken a gate entry (R128, R129): without a reader IDLE with its holds, conditions, timers, free window and
supervision cleared; in TIMED with its contact held CLOSED, its conditions and held-open timer cleared, and IDLE out of CLOSING (log entry
18); newly supervised, its contact to be taken as it stands; supervised before, as it was (log entry 55). -/
def Door.taken (d : Door) (e : GateEntry) : Door :=
  let u : Door := { d with params := some e.params, equipped := e.equipped }
  let still : Door := { u with
    forcedUnresolved := false, heldUnresolved := false, heldRaised := false, heldTimer := none, settling := false, rawRun := 0 }
  if e.equipped = false then
    { still with state := .idle, served := none, overcurrentHold := false, openLoadHold := false, passRun := 0, freeEnd := none,
                 freePending := false, openTimer := none }
  else match e.params.mode with
    | .timed => { still with contact := .closed, state := if d.state = .closing then .idle else d.state }
    | .contact => if d.equipped = true ∧ d.par.mode = .contact then u else { u with settling := true, rawRun := 0 }

/-- The held-open timer of a channel at an opening: it goes on running, or is started now (R137). -/
def Door.heldFrom (d : Door) (now : Nat) : Option Nat := if d.heldTimer = none then some now else d.heldTimer

/-- The passage queue with `o` reported for every punch not yet reported (R81). -/
def reportedQueue (q : List Punch) (o : PassageReport) : List Punch :=
  q.map fun p => { p with report := if p.report = none then some o else p.report }

/-- A region of common memory, the address of its first byte and the one after its last, apart from another. -/
def apart (a a' b b' : Nat) : Prop := a' ≤ b ∨ b' ≤ a

/-! ### Punches in flight (R80, R192) -/

/-- The punches of all queues. -/
def State.inFlightCount (s : State) : Nat := (gates.map fun g => (s.queue g).length).sum

/-- Outside RUNNING and STOPPING no punch is in flight and no order is in hand; an order in hand belongs to a walk
(R88, R192, R195). -/
def State.restLaw (s : State) : Prop :=
  ((s.control.runState = .stopped ∨ s.control.runState = .starting ∨ s.control.runState = .faulted) →
      (∀ g, s.queue g = []) ∧ s.orders.walking = false) ∧
    (s.orders.walking = false → s.orders.inHand = none)

/-- Every punch in flight holds exactly one 12-word journal reservation, and nothing else does between two events (R80). -/
def State.punchLaw (s : State) : Prop := s.restLaw ∧ s.journal.reserved = punchWords * s.inFlightCount

/-- A queue holds at most 4 punches (R80). -/
def State.queuesFit (s : State) : Prop := ∀ g, (s.queue g).length ≤ 4

/-- The part once an event has taken what held a stop: with no punch in flight, every line IDLE and the walk idle STOPPING ends, in
STOPPED, or with the RUN request set in STARTING with the sweep and the walk IDLE (R119, R191, R192, R195). -/
def State.afterStop (u : State) : State :=
  if u.control.runState = .stopping ∧ (∀ g, u.queue g = []) ∧ (∀ n, (u.line n).state = .idle) ∧ u.orders.walking = false then
    if u.control.runRequest = true then
      { u with control := { u.control with runState := .starting }, engine := { u.engine with sweep := .idle, sweepPending := false },
               orders := OrderUnit.reset }
    else { u with control := { u.control with runState := .stopped } }
  else u

/-! ### The alarm (R147) -/

/-- The alarm is driven while a condition holds, with the stretch timer stopped; without a condition it is driven exactly while
the stretch timer runs (R147). -/
def State.alarmLaw (s : State) : Prop :=
  (s.alarmCondition = true → s.control.alarm = true ∧ s.control.stretch = none) ∧
    (s.alarmCondition = false → s.control.alarm = s.control.stretch.isSome)

/-! ### The journal (R174, R175) -/

/-- A held journal: its positions stand in the region on whole multiples of 4 words, a first and a last word that enclose at
least 64 words (R174, R185). -/
def Journal.placed (j : Journal) (r : Region) : Prop :=
  r.first % 4 = 0 ∧ (r.last - r.first) % 16 = 12 ∧ r.first + 252 ≤ r.last ∧ r.first ≤ j.writePos ∧ j.writePos + 12 ≤ r.last ∧
    (j.writePos - r.first) % 16 = 0

/-- A held journal stands in its place, and its used and reserved words never pass its capacity (R174, R175). -/
def State.roomLaw (s : State) : Prop :=
  ∀ r, s.journal.region = some r → s.journal.placed r ∧ s.journal.used + s.journal.reserved ≤ s.journal.capacity

/-- The journal after a record of `k` words that needs no filler before it (R178). -/
def Journal.recorded (j : Journal) (r : Region) (k : Nat) : Journal :=
  { j with writePos := r.advance j.writePos k, used := j.used + k, unreleased := j.unreleased + 1, nextSeq := seqSucc j.nextSeq }

/-- A record of `x` needs a filler before it: fewer words than its own are left before the end of the region (R178). -/
def Journal.fills (j : Journal) (r : Region) (x : JRecord) : Prop := r.wordsLeft j.writePos < x.size

/-- The journal past a header of the release walk: past a filler at the start of the region, past a record at the next one (R181). -/
def Journal.pass (r : Region) (j : Journal) : HeaderCheck → Journal
  | .filler => { j with readPos := r.first, used := j.used - 4 }
  | .record len => { j with readPos := r.advance j.readPos len, used := j.used - len, unreleased := j.unreleased - 1,
                            oldestSeq := seqSucc j.oldestSeq }
  | .fails => j

/-- What the header at the read position of a journal over this memory is found to be. -/
def State.headerOf (s : State) (r : Region) (j : Journal) : HeaderCheck := j.checkHeader r (s.load j.readPos)

/-- The records that the taken cell names (R180). -/
def State.takenCount (s : State) : Nat :=
  let taken := (s.load takenCell).toNat
  if taken = 0 ∨ taken = seqPred s.journal.oldestSeq then 0 else seqDistance s.journal.oldestSeq taken + 1

/-- The release walk passes the headers `xs`, one after another: no more records than the taken cell names, and it names no more than
there are (R180, R181). -/
def State.walkPasses (s : State) (r : Region) (xs : List HeaderCheck) : Prop :=
  s.takenCount ≤ s.journal.unreleased ∧ (xs.filter fun x => x ≠ .filler).length ≤ s.takenCount ∧
    ∀ i, i < xs.length → xs.getD i .fails ≠ .fails ∧ 0 < ((xs.take i).foldl (Journal.pass r) s.journal).used ∧
      s.headerOf r ((xs.take i).foldl (Journal.pass r) s.journal) = xs.getD i .fails

/-- The walk that passed `xs` ends there with no damage: nothing is used, or the records named are released and a record follows. -/
def State.walkEnds (s : State) (r : Region) (xs : List HeaderCheck) : Prop :=
  let e := xs.foldl (Journal.pass r) s.journal
  e.used = 0 ∨ (xs.filter fun x => x ≠ .filler).length = s.takenCount ∧ ∃ len, s.headerOf r e = .record len

/-- Where the record `x` goes: the write position, or the first word of the region after a filler (R178). -/
def Journal.place (j : Journal) (r : Region) (x : JRecord) : Nat := if r.wordsLeft j.writePos < x.size then r.first else j.writePos

/-- The journal after the record `x`, with the filler it may need (R178). -/
def Journal.after (j : Journal) (r : Region) (x : JRecord) : Journal :=
  { j with writePos := r.advance (j.place r x) x.size,
           used := j.used + x.size + (if r.wordsLeft j.writePos < x.size then 4 else 0), unreleased := j.unreleased + 1,
           nextSeq := seqSucc j.nextSeq }

/-- The bytes of the record `x` and of the filler it may need. -/
def Journal.bytes (j : Journal) (r : Region) (x : JRecord) (a : Nat) : Prop :=
  wordsAt (j.place r x) x.size a ∨ j.fills r x ∧ wordsAt j.writePos 4 a

/-- Common memory shows the record `x` with the next sequence in its place, and the filler before it (R178, 13.7). -/
def Journal.shows (j : Journal) (r : Region) (m : Memory) (x : JRecord) : Prop :=
  readWords m (j.place r x) x.size = x.header j.nextSeq :: x.body ∧
    (j.fills r x → readWords m j.writePos 4 = [0xF0000000, 0, 0, 0])

/-- The journal after the records of one event, one after another, and the bytes they write (R178). -/
def Journal.afterAll (j : Journal) (r : Region) (xs : List JRecord) : Journal := xs.foldl (fun j x => j.after r x) j
def Journal.bytesAll (r : Region) (a : Nat) : Journal → List JRecord → Prop
  | _, [] => False
  | j, x :: xs => j.bytes r x a ∨ Journal.bytesAll r a (j.after r x) xs
def Journal.showsAll (r : Region) (m : Memory) : Journal → List JRecord → Prop
  | _, [] => True
  | j, x :: xs => j.shows r m x ∧ Journal.showsAll r m (j.after r x) xs

/-- The journal region, the status block and the exception table lie apart from each other (R189 check 7). -/
def State.regionApart (s : State) (r : Region) : Prop :=
  (∀ b, s.control.statusBlock = some b → b + 352 ≤ r.first ∨ r.last + 4 ≤ b) ∧
    ∀ t, s.engine.exceptions = some t → (t.base + 48 * t.count ≤ r.first ∨ r.last + 4 ≤ t.base) ∧
      ∀ b, s.control.statusBlock = some b → t.base + 48 * t.count ≤ b ∨ b + 352 ≤ t.base

/-- `t` is `u` as an event ends it that wrote the record `x` and made the worker record `w`, and wrote nothing else. -/
def EndsWriting (r : Region) (x : JRecord) (ref : WorkerRef) (w : Worker) (u t : State) : Prop :=
  t.worker ref = w ∧
    EndsBut { u with journal := u.journal.after r x } t (fun a => u.journal.bytes r x a ∨ wordsAt ref.address 13 a) ∧
    (u.regionApart r → u.journal.shows r t.mem x)

/-- The same of an event that took an exception in slot `i`: the slot filled and PENDING, the last-exception section, the worker's
pending count one up, and PAY_EXCEPTION latched unless the rule is quiet (R112, R113). -/
def EndsTaking (r : Region) (x : JRecord) (ref : WorkerRef) (w : Worker) (table : Table) (i : Nat) (fill : SlotFill) (quiet : Bool)
    (u t : State) : Prop :=
  t.worker ref = { w with pendingCount := w.pendingCount + 1 } ∧
    EndsBut { u with
      journal := u.journal.after r x,
      engine := { u.engine with lastException := { code := some fill.code, slot := i, badge := fill.badge } },
      control := { u.control with latched := { u.control.latched with payException := u.control.latched.payException || !quiet } } }
      t (fun a => u.journal.bytes r x a ∨ wordsAt ref.address 13 a ∨ wordsAt (table.base + 48 * i) 12 a) ∧
    (u.regionApart r → u.journal.shows r t.mem x ∧ readWords t.mem (table.base + 48 * i) 12 = 1 :: fill.words)

/-- `EndsWriting` of an event that wrote the records `xs`, one after another. -/
def EndsWritingAll (r : Region) (xs : List JRecord) (ref : WorkerRef) (w : Worker) (u t : State) : Prop :=
  t.worker ref = w ∧
    EndsBut { u with journal := u.journal.afterAll r xs } t (fun a => Journal.bytesAll r a u.journal xs ∨ wordsAt ref.address 13 a) ∧
    (u.regionApart r → Journal.showsAll r t.mem u.journal xs)

/-- `EndsTaking` of an event that wrote the records `xs`, one after another (R112, R113). -/
def EndsTakingAll (r : Region) (xs : List JRecord) (ref : WorkerRef) (w : Worker) (table : Table) (i : Nat) (fill : SlotFill)
    (quiet : Bool) (u t : State) : Prop :=
  t.worker ref = { w with pendingCount := w.pendingCount + 1 } ∧
    EndsBut { u with
      journal := u.journal.afterAll r xs,
      engine := { u.engine with lastException := { code := some fill.code, slot := i, badge := fill.badge } },
      control := { u.control with latched := { u.control.latched with payException := u.control.latched.payException || !quiet } } }
      t (fun a => Journal.bytesAll r a u.journal xs ∨ wordsAt ref.address 13 a ∨ wordsAt (table.base + 48 * i) 12 a) ∧
    (u.regionApart r → Journal.showsAll r t.mem u.journal xs ∧ readWords t.mem (table.base + 48 * i) 12 = 1 :: fill.words)

/-- Room given back would be offered to no one: no sweep is paused and no carry is under way (R176). -/
def State.noneWaitsForRoom (s : State) : Prop := s.engine.sweep ≠ .paused ∧ s.engine.install.inCarry = false

/-- A close of the pair of the open-in `o` and the stamp `out`, by the cases of R91, R96 and R104 in their order. `writes x w` is to say that the
event writes the record `x` and leaves the worker `w`, `takes x slots i fill` that it writes `x`, fills slot `i` and credits nothing.
Under an invalid rule (R61), for a NO_PAY worker (R108) and with an undefined stamp (R116) the results are zero; else they are those of the
stages (R92–R103), of which a span above its limit is SPAN_LIMIT with CLAMPED, and totals that do not hold them are TOTAL_OVERFLOW (R109). A
class that the rule enables is taken in the lowest FREE slot with EXCEPTION; where it is not, with EXCEPTION_LOST for want of a slot, the
results are credited, held at the maxima with SATURATED where they do not fit (R104, R105, R113, R117). `f` holds the flags of the event.
The slot field of a record that took no slot is a free value (log entry 5). -/
@[reducible] def State.ClosesByTheRules (s : State) (ref : WorkerRef) (o : OpenIn) (out : Option Stamp) (f : RecFlags)
    (gate reader : Nat) (writes : JRecord → Worker → Prop) (takes : JRecord → Table → Nat → SlotFill → Prop) : Prop :=
  let w := s.worker ref
  let lim := s.closeLimits w.group o.start
  let rule := s.payRule w.rule
  let enabled (c : ExcClass) : Bool := match rule with
    | none => false
    | some x => x.enables c
  let free := s.engine.exceptions.bind (lowestFree s.mem)
  let record (a b c amount slot : Nat) (f : RecFlags) (ruleInvalid : Bool) :=
    punchClose w o.stamp out a b c amount gate reader slot f lim.entryInvalid ruleInvalid
  let unused : Nat := (Config.freeWord s.freeUsed).toNat
  (rule = none → writes (record 0 0 0 0 unused f true) w) ∧
  (rule.isSome = true → w.noPay = true → writes (record 0 0 0 0 unused { f with noPay := true } false) w) ∧
  (rule.isSome = true → w.noPay = false → (o.stamp = none ∨ out = none) →
    (enabled .unsetTime = false ∨ free = none →
      writes (record 0 0 0 0 unused { f with unsetTime := true, exceptionLost := enabled .unsetTime } false) w) ∧
    ∀ slots i, enabled .unsetTime = true → s.engine.exceptions = some slots → free = some i →
      takes (record 0 0 0 0 i { f with unsetTime := true, exception := true } false) slots i
        { code := .unsetTime, index := ref.index, badge := w.badge, inStamp := o.stamp, outStamp := out, regular := 0,
          overtime := 0, night := 0, amount := 0, shiftDay := o.start.map Prod.fst }) ∧
  ∀ pay tin tout, rule = some pay → w.noPay = false → o.stamp = some tin → out = some tout →
    let x := pairStages pay lim w o tin tout
    let lostSpan := x.overLimit && enabled .spanLimit && free.isNone
    let fx : RecFlags := { f with breakTaken := x.breakTaken, zeroSpan := x.zeroSpan, clamped := x.overLimit, exceptionLost := lostSpan }
    let fill (c : ExcClass) : SlotFill :=
      { code := c, index := ref.index, badge := w.badge, inStamp := o.stamp, outStamp := out, regular := x.mreg,
        overtime := x.mot, night := x.mn, amount := x.amount, shiftDay := some x.shiftDay }
    let day : Worker := { w with rd := (if w.rdDay = some x.shiftDay then w.rd else 0) + x.mreg, rdDay := some x.shiftDay }
    let fits := w.regular + x.mreg ≤ 65535 ∧ w.overtime + x.mot ≤ 65535 ∧ w.night + x.mn ≤ 65535 ∧
      w.amount + x.amount ≤ 4294967295 ∧ w.pairs + 1 ≤ 65535
    let spanTaken := x.overLimit = true ∧ enabled .spanLimit = true ∧ free ≠ none
    let taken (i : Nat) := record x.mreg x.mot x.mn x.amount i { fx with exception := true } false
    (w.rdDay = some x.shiftDay → w.rd ≤ 960) →
    (∀ slots i, spanTaken → s.engine.exceptions = some slots → free = some i → takes (taken i) slots i (fill .spanLimit)) ∧
    (¬ spanTaken → fits → writes (record x.mreg x.mot x.mn x.amount unused fx false) { day with
      regular := w.regular + x.mreg, overtime := w.overtime + x.mot, night := w.night + x.mn, amount := w.amount + x.amount,
      pairs := w.pairs + 1 }) ∧
    (∀ slots i, ¬ spanTaken → ¬ fits → enabled .totalOverflow = true → s.engine.exceptions = some slots → free = some i →
      takes (taken i) slots i (fill .totalOverflow)) ∧
    (¬ spanTaken → ¬ fits → (enabled .totalOverflow = false ∨ free = none) →
      writes (record x.mreg x.mot x.mn x.amount unused
        { fx with saturated := true, exceptionLost := lostSpan || enabled .totalOverflow } false) { day with
          regular := min 65535 (w.regular + x.mreg), overtime := min 65535 (w.overtime + x.mot),
          night := min 65535 (w.night + x.mn), amount := min 4294967295 (w.amount + x.amount),
          pairs := min 65535 (w.pairs + 1), saturated := true })

/-- The rule of a worker is quiet (R113 step 5). -/
def State.quietFor (s : State) (w : Worker) : Bool := match s.payRule w.rule with
  | none => false
  | some x => x.quiet

/-- The exception table lies apart from the journal region, and it and the pending count of the worker are in range (R112, R189). -/
def State.slotsApart (s : State) (r : Region) (w : Worker) : Prop :=
  w.pendingCount ≤ 32 ∧ ∀ slots, s.engine.exceptions = some slots →
    slots.count ≤ 32 ∧ (slots.base + 48 * slots.count ≤ r.first ∨ r.last + 4 ≤ slots.base)

/-- A record of a worker lies apart from the journal region, from the status block and from the exception table: none of its
16 words is a word of theirs (R189 check 7). -/
def State.recordApart (s : State) (ref : WorkerRef) : Prop :=
  (∀ r, s.journal.region = some r → ref.address + 64 ≤ r.first ∨ r.last + 4 ≤ ref.address) ∧
    (∀ b, s.control.statusBlock = some b → ref.address + 64 ≤ b ∨ b + 352 ≤ ref.address) ∧
    ∀ t, s.engine.exceptions = some t → ref.address + 64 ≤ t.base ∨ t.base + 48 * t.count ≤ ref.address

/-- A record of a worker lies apart from the live shift table: none of its 16 words is one of the 512 of the table (R189 check 7). -/
def State.shiftApart (s : State) (ref : WorkerRef) : Prop :=
  ∀ a, s.engine.shift = some a → ref.address + 64 ≤ a ∨ a + 2048 ≤ ref.address

/-- The fields of a worker fit their places in the record, and the none codes name nothing (R34, R35, 13.2). -/
def Worker.inRange (w : Worker) : Prop :=
  w.badge < 2 ^ 32 ∧ w.number < 2 ^ 32 ∧ w.group < 32 ∧ w.rule < 16 ∧ w.mask < 256 ∧ w.rate < 2 ^ 20 ∧
    (∀ g, w.inFlight = some g → g < 8) ∧ w.rd < 1024 ∧ (∀ d, w.rdDay = some d → d < 65535) ∧
    (∀ p, w.lastReader = some p → p < 16) ∧ (∀ x, w.lastStamp = some x → x.day < 65535 ∧ x.second < 2 ^ 17) ∧
    w.regular < 65536 ∧ w.overtime < 65536 ∧ w.night < 65536 ∧ w.amount < 2 ^ 32 ∧ w.pairs < 65536 ∧ w.pendingCount < 64 ∧
    ∀ o, w.openIn = some o → (∀ x, o.stamp = some x → x.day < 65535 ∧ x.second < 2 ^ 17) ∧ o.gate < 8 ∧ o.length < 1024 ∧
      ∀ x, o.start = some x → x.1 < 65535 ∧ x.2 < 2048

end Sys2Proof.Machine
end

