-- ==== Sys2Proof/Certificates/Slice0/Obligations.lean ====
section
/-! DEFINITION. The statements for the provers. Each says what the rules of spec/ named beside it give. `EndsAs u t`
(Sys2Proof/Safety.lean) is the frame: `t` is `u` in everything but the alarm output with its stretch timer and the words of the
status block; `EndsBut` names further bytes that may differ. -/

open Sys2Proof Sys2Proof.Machine

/-! ### The step, common memory, the laws -/

/-- The command at the front of the queue is run on the state with the rest of the queue; an empty queue idles
(log entry 10). -/
def Obligations.StepRunsTheFrontCommand : Prop :=
  ∀ s : State, (∀ c rest, s.pending = c :: rest → step s = exec c { s with pending := rest }) ∧
    (s.pending = [] → step s = .next s)

/-- A word written is read back, every byte outside it stands, and the canonical form is kept (log entry 4). -/
def Obligations.WordReadsBackAsWritten : Prop :=
  ∀ (m : Memory) (a : Nat) (w : Word), Memory.wf m = true →
    readWord (writeWord m a w) a = w ∧ (∀ x, x < a ∨ a + 4 ≤ x → readByte (writeWord m a w) x = readByte m x) ∧
      Memory.wf (writeWord m a w) = true

/-- Every step keeps common memory in its canonical form (log entry 4), and leaves no room that was given back still to be
offered: it is offered within the event that gives it (R176). -/
def Obligations.EveryStepKeepsMemoryCanonical : Prop :=
  ∀ s t : State, step s = .next t →
    (Memory.wf s.mem = true → Memory.wf t.mem = true) ∧ (s.betweenEvents → t.betweenEvents)

/-- Every step keeps the counts of the time base in their ranges (R1). -/
def Obligations.EveryStepKeepsTheCountsInRange : Prop :=
  ∀ s t : State, s.time.inRange → step s = .next t → t.time.inRange

/-- Every step keeps the law of the hit slot: no claimant holds and waits at once or waits twice (R154), every coil in its hit
phase is the holder, so at most one is (R158). -/
def Obligations.EveryStepKeepsTheHitSlotLaw : Prop :=
  ∀ s t : State, s.slotLaw → step s = .next t → t.slotLaw ∧
    (∀ g h, (t.door g).state = .hit → (t.door h).state = .hit → g = h) ∧
    (∀ g n, (t.door g).state = .hit → (t.line n).releaseAt = none) ∧
    ∀ n k, (t.line n).releaseAt.isSome = true → (t.line k).releaseAt.isSome = true → n = k

/-- Every step keeps the law of coil drive: while the supply is LOW no door coil is driven and every line driver is off; a door
coil is driven only in HIT, HOLD and FREE (R146). -/
def Obligations.EveryStepKeepsTheCoilDriveLaw : Prop :=
  ∀ s t : State, s.driveLaw → step s = .next t → t.driveLaw ∧
    (t.supply.state = .low → (∀ g, (t.door g).coil = .off) ∧ ∀ n, (t.line n).driver = false) ∧
    ∀ g, (t.door g).coil ≠ .off → (t.door g).state = .hit ∨ (t.door g).state = .hold ∨ (t.door g).state = .free

/-- Every step keeps the law of free requests: one is pending only at an equipped channel in NORMAL supply while a punch cycle or
CLOSING goes on, never in FREE or in the claim or hit of a free cycle (R130, R142, R146); out of RUNNING no window, no pending request or
send and no free cycle stands (R150, R157, R172), which rests on the model's reading that an order in hand begins none there (log entry 60). -/
def Obligations.EveryStepKeepsTheFreeRequestLaw : Prop :=
  ∀ s t : State, s.freeLaw → step s = .next t → t.freeLaw

/-- Every step keeps the law of punches in flight: the reserved words are 12 for each punch of the eight queues, and outside RUNNING and
STOPPING there is none (R80, R88); it keeps every passage queue at 4 punches or fewer (R77, R80). With that law it keeps the room law of the
journal: a held journal stands on whole records in its region, of 64 words or more, and its used and reserved words together never pass its
capacity (R174, R175, R178, R185). -/
def Obligations.EveryStepKeepsTheLawOfPunches : Prop :=
  ∀ s t : State, step s = .next t →
    (s.punchLaw → t.punchLaw) ∧ (s.queuesFit → t.queuesFit) ∧ (s.punchLaw → s.roomLaw → t.roomLaw)

/-- Every step keeps the alarm: driven with the stretch timer stopped while a condition of R147 holds, and without one driven
exactly while the stretch timer runs. -/
def Obligations.EveryStepKeepsTheAlarmLaw : Prop :=
  ∀ s t : State, s.alarmLaw → step s = .next t → t.alarmLaw

/-- The state after reset meets every law stated above, and holds the values the spec gives power-up: the clock UNSET with the counts 0 and
no mark, candidate or LM (R2); every position ABSENT with its record as R23 gives it, the links quiet; every queue empty (R88), no table
held (R37, R60, R112), install and sweep IDLE with no pending mark (R40, R119); every channel IDLE, not equipped, its coil off, serving
none, with no hold, condition, free request, timer, flag or parameters and its contact CLOSED (R127, R128); both runs of the supply 0
(R151); no holder and an empty list (R154); every line IDLE and empty with minimum on 1 (R161); no bell table, silence end or pending free
send (R172); no journal held, every field of it 0, both level causes inactive (R186); no walk, address 0, no end mark (R195); CONTROL with
STOPPED, the request clear and start result NONE, index 0, ORDER POINTER, ATTENTION, its enables and JOURNAL FILL 0 (R187), no status block
address and no stretch timer (R200). That its supply is NORMAL, so that no alarm is driven, stands for a first sample at 19.0 V or above
(R151), the model's choice (log entry 7); where no rule gives a power-up value the model's choice is 0, none, clear or the first code (log
entry 19). -/
def Obligations.ResetMeetsTheLaws : Prop :=
  Memory.wf State.reset.mem = true ∧ State.reset.betweenEvents ∧ State.reset.time.inRange ∧ State.reset.slotLaw ∧
    State.reset.driveLaw ∧ State.reset.freeLaw ∧ State.reset.punchLaw ∧ State.reset.queuesFit ∧ State.reset.alarmLaw ∧
    State.reset.roomLaw ∧
    let s := State.reset
    let j := s.journal
    (s.time.tick = 0 ∧ s.time.second = 0 ∧ s.time.minute = 0 ∧ s.time.day = 0 ∧ s.time.dow = 0 ∧ s.time.clock = .unset ∧
      s.time.lastMark = none ∧ s.time.candidate = none ∧ s.time.lm = none ∧ s.time.silence = 0 ∧ s.time.markErrors = 0) ∧
    (∀ p, let r := s.reader p
      r.state = .absent ∧ r.placed = none ∧ r.failRun = 0 ∧ r.lastReport = none ∧ r.indCounter = 0 ∧ r.outstanding = none ∧
        r.tamper = false ∧ r.sensorFault = false ∧ r.checkErrors = 0 ∧ r.noResponses = 0 ∧ r.frameErrors = 0 ∧ r.stales = 0) ∧
    (∀ k, (s.link k).exchange = none) ∧
    (s.engine.workers = none ∧ s.engine.shift = none ∧ s.engine.exceptions = none ∧ s.engine.install = .idle ∧
      s.engine.sweep = .idle ∧ s.engine.sweepPending = false ∧ ∀ g, s.queue g = []) ∧
    (∀ g, let d := s.door g
      d.state = .idle ∧ d.equipped = false ∧ d.coil = .off ∧ d.served = none ∧ d.overcurrentHold = false ∧ d.openLoadHold = false ∧
        d.passRun = 0 ∧ d.freeEnd = none ∧ d.freePending = false ∧ d.contact = .closed ∧ d.forcedUnresolved = false ∧
        d.heldUnresolved = false ∧ d.heldTimer = none ∧ d.openTimer = none ∧ d.flags = DoorFlags.clear ∧ d.params = none) ∧
    (s.supply.lowRun = 0 ∧ s.supply.recoveryRun = 0 ∧ s.arbiter.holder = none ∧ s.arbiter.requests = []) ∧
    (∀ k, let l := s.line k
      l.state = .idle ∧ l.queue = [] ∧ l.pulsesDone = 0 ∧ l.granted = false ∧ l.cut = false ∧ l.minOn = 1) ∧
    (s.bells.current = none ∧ s.bells.pendingTable = none ∧ s.bells.silenceEnd = none ∧ ∀ g, s.freeSend g = none) ∧
    (j.region = none ∧ j.damaged = false ∧ j.writePos = 0 ∧ j.readPos = 0 ∧ j.used = 0 ∧ j.reserved = 0 ∧
      j.nextSeq = 0 ∧ j.oldestSeq = 0 ∧ j.unreleased = 0 ∧ j.holdLevel = 0 ∧ j.threshold = 0 ∧ j.denialsUnrecorded = 0 ∧
      j.noticesLost = 0) ∧
    (s.levelActive = false ∧ s.holdActive = false) ∧
    (s.orders.walking = false ∧ s.orders.current = 0 ∧ s.orders.endMark = false) ∧
    s.control.runState = .stopped ∧ s.control.runRequest = false ∧ s.control.startResult = .none ∧ s.control.startIndex = 0 ∧
    s.controlRead = 0 ∧ s.orderPointerRead = 0 ∧ s.attentionRead = 0 ∧ s.enableRead = 0 ∧ s.fillRead = 0 ∧
    s.control.statusBlock = none ∧ s.control.stretch = none

/-- How an event ends. One that gave no room back ends as it stood, but for the alarm and the status block; the status block then shows
the words of the state after it, where it showed those of the state before (R147, R198). One that gave room back offers it at its end:
with no one waiting nothing more happens; a paused sweep tests its worker afresh: it passes over one that holds a punch in flight or no
open-in, closes a due off-shift open-in in the room there, and stays paused while a damaged journal is short of it; a paused carry tries
its old-only step again: it waits for a punch in flight, takes the step of a worker that leaves nothing, and stays paused while the
journal is short (R45, R122, R123, R176). That the offer is made at the end of the event is the model's reading (log entry 12),
that an open-in without a shift start is taken as off-shift whatever its OFF_SHIFT flag likewise (log entry 42), and that in-flight codes
8–14 count as a punch in flight its choice (log entry 40). -/
def Obligations.EventsEndByRoomAlarmAndStatus : Prop :=
  ∀ before after : State,
    (after.betweenEvents → Memory.wf after.mem = true →
      EndsAs after (settled before after) ∧
        ∀ a, after.control.statusBlock = some a → readWords after.mem a statusWordCount = before.statusWords →
          readWords (settled before after).mem a statusWordCount = after.statusWords) ∧
    (after.journal.roomGiven = true →
      let u : State := { after with journal := { after.journal with roomGiven := false } }
      (after.noneWaitsForRoom → EndsAs u (settled before after)) ∧
      (∀ table, after.engine.sweep = .paused → after.engine.workers = some table → after.engine.install.inCarry = false →
        let ref : WorkerRef := { base := table.base, index := after.engine.sweepCursor }
        let w := after.worker ref
        let on := u.withEngine { u.engine with sweep := .running, sweepCursor := u.engine.sweepCursor + 1 }
        after.engine.sweepCursor + 1 < table.count →
        ((w.inFlight ≠ none ∨ w.openIn = none) → EndsAs on (settled before after)) ∧
        ∀ (o : OpenIn) (r : Region), w.inFlight = none → w.openIn = some o → o.start = none → o.stamp = none →
          after.journal.region = some r →
          (after.journal.placed r → 12 ≤ after.journal.freeWords → Memory.wf after.mem = true → w.inRange →
            after.recordApart ref →
            EndsWriting r (punchUnpaired w.badge none true o.gate 31 none { auto := true }) ref
              { w with presence := .unknown, openIn := none } on (settled before after)) ∧
          (after.journal.damaged = true → after.journal.freeWords < 12 → EndsAs u (settled before after))) ∧
      (∀ old c b, after.engine.sweep ≠ .paused → after.engine.workers = some old → after.engine.install = .carry c →
        c.paused = true → after.carryNext old c = .oldOnly b →
        let w := after.worker { base := old.base, index := c.oldNext }
        let carried (c : Carry) := u.withEngine { u.engine with install := .carry c }
        let next := { c with oldNext := c.oldNext + 1, cursor := some b, oldOnlySteps := c.oldOnlySteps + 1, paused := false }
        (w.inFlight ≠ none → EndsAs (carried { c with paused := false }) (settled before after)) ∧
        (w.inFlight = none → w.departure = [] → after.carryNext old next ≠ .finished →
          EndsAs (carried next) (settled before after)) ∧
        (w.inFlight = none → w.departure ≠ [] → after.journal.region.isSome = true → after.journal.damaged = true →
          after.journal.freeWords < 12 * w.departure.length → EndsAs u (settled before after))))

/-- A request for room of any class: granted with the words free, refused while no journal is held or a damaged one is short; in an
undamaged journal that is short the release walk of the taken cell comes first, and the words free after it decide (R174–R176): the walk
passes the headers it finds as RELEASE_WALK does, finds damage, or finds the cell's value invalid (R180, R181); that a header naming more
than the used words leaves U at 0 is the model's choice (log entry 64). A notice: nothing outside RUNNING and STOPPING; with the room of 4
words there, a short record at the write position with the next sequence, every other byte standing; granted after a walk, the same there;
refused, lost and counted (R176, R178, R184). -/
def Obligations.RoomIsGrantedAndNoticesAreWritten : Prop :=
  (∀ (s : State) (need : Nat),
    let j := s.journal
    let cell := (s.load takenCell).toNat
    let decides (v : State) : Prop := s.requestRoom need = (decide (need ≤ v.journal.freeWords), v)
    (j.region = none → s.requestRoom need = (false, s)) ∧
    ∀ r, j.region = some r →
      (need ≤ j.freeWords → s.requestRoom need = (true, s)) ∧
      (j.freeWords < need → j.damaged = true → s.requestRoom need = (false, s)) ∧
      (j.freeWords < need → j.damaged = false →
        (cell ≠ 0 → cell ≠ seqPred j.oldestSeq → j.unreleased ≤ seqDistance j.oldestSeq cell →
          decides (s.latch Latched.setReleaseInvalid)) ∧
        ∀ xs, s.walkPasses r xs →
          let e := xs.foldl (Journal.pass r) j
          let walked : Journal := { e with roomGiven := j.roomGiven || decide (e.used < j.used) }
          (s.walkEnds r xs → decides { s with journal := walked }) ∧
          (0 < e.used → s.headerOf r e = .fails →
            decides (({ s with journal := { walked with damaged := true } } : State).latch Latched.setJournalDamaged)))) ∧
  ∀ (s : State) (x : JRecord), x.kind.long = false → x.body.length = 3 →
    let taken := s.control.runState = .running ∨ s.control.runState = .stopping
    let lost (s : State) : State := { s with journal := { s.journal with noticesLost :=
      if s.journal.noticesLost < 65535 then s.journal.noticesLost + 1 else s.journal.noticesLost } }
    (¬ taken → s.notice x = s) ∧
    (∀ v, taken → s.requestRoom 4 = (false, v) → s.notice x = lost v) ∧
    (∀ v, taken → s.requestRoom 4 = (true, v) → s.notice x = v.notice x) ∧
    (∀ r, taken → s.journal.region = some r → s.journal.placed r → Memory.wf s.mem = true → 4 ≤ s.journal.freeWords →
      s.notice x = { s with journal := s.journal.recorded r 4, mem := (s.notice x).mem } ∧
        readWords (s.notice x).mem s.journal.writePos 4 = x.header s.journal.nextSeq :: x.body ∧
        ∀ a, ¬ wordsAt s.journal.writePos 4 a → readByte (s.notice x).mem a = readByte s.mem a)

/-- Commands that change nothing where their event cannot occur. Covered are: a link event without an exchange and a POLL within one; a
PRESENTATION of none handed over; a commit at a gate whose head is not reported; an order's command, or VERIFY_NEXT_RECORD, with no
order in hand; ORDER_BLOCK out of a walk or with an order in hand; an install command with no install, TAKE_TOTALS_WORKER with none in
progress; SWEEP_TEST with no running sweep; START_CHECKS_DONE out of STARTING; OPEN_TIMER_EXPIRY out of HOLD, HELD_OPEN with the contact
CLOSED; PULSE_END, SETTLE_END and PULSE_START out of their line states; DAMAGE_RECHECK of an undamaged journal. This is the model's
choice (log entry 10). -/
def Obligations.ListedCommandsOutOfPlaceChangeNothing : Prop :=
  ∀ (s : State) (g : Gate) (k : LinkNo) (l : LineNo) (bytes : List Byte) (stop : Bool) (n : Nat),
    ((s.link k).exchange = none → exec (.noResponse k) s = .next s ∧ exec (.responseFrame k bytes stop) s = .next s) ∧
    ((s.link k).exchange ≠ none → exec (.poll k) s = .next s) ∧
    (s.engine.handed.length ≤ n → exec (.presentation n) s = .next s) ∧
    ((∀ p rest, s.queue g = p :: rest → p.report = none) → ∀ c, c = .commitIn g ∨ c = .commitOut g ∨ c = .commitNotPassed g ∨
      c = .commitVoided g → exec c s = .next s) ∧
    (s.orders.inHand = none → ∀ c, c = .setTime ∨ c = .installWorkerTable ∨ c = .amendWorker ∨ c = .setPresence ∨ c = .takeTotals ∨
      c = .settleException ∨ c = .installShiftTable ∨ c = .installBellTable ∨ c = .setGate ∨ c = .rearmDoor ∨ c = .freePassage ∨
      c = .ring ∨ c = .silenceBells ∨ c = .clearStatus ∨ c = .journalRestart ∨ c = .verifyNextRecord → exec c s = .next s) ∧
    ((s.orders.walking = false ∨ s.orders.inHand ≠ none) → exec .orderBlock s = .next s) ∧
    (s.engine.install = .idle → ∀ c, c = .verifyNextRecord ∨ c = .carryBegin ∨ c = .matchedStep ∨ c = .oldOnlyStep ∨
      c = .newOnlyStep → exec c s = .next s) ∧
    (s.engine.takeTotals = none → exec .takeTotalsWorker s = .next s) ∧ (s.engine.sweep ≠ .running → exec .sweepTest s = .next s) ∧
    (s.control.runState ≠ .starting → exec .startChecksDone s = .next s) ∧
    ((s.door g).state ≠ .hold → exec (.openTimerExpiry g) s = .next s) ∧
    ((s.door g).contact = .closed → exec (.heldOpen g) s = .next s) ∧
    ((s.line l).state ≠ .on → exec (.pulseEnd l) s = .next s) ∧ ((s.line l).state ≠ .settle → exec (.settleEnd l) s = .next s) ∧
    ((s.line l).state ≠ .claim → exec (.pulseStart l) s = .next s) ∧
    (s.journal.damaged = false → exec .damageRecheck s = .next s)

/-! ### Worker records and lookup -/

/-- A worker record written is read back field for field, and no byte outside its words 0–12 changes (R36, 13.2). -/
def Obligations.WorkerRecordReadsBack : Prop :=
  ∀ (s : State) (ref : WorkerRef) (w : Worker), Memory.wf s.mem = true → w.inRange →
    (s.setWorker ref w).worker ref = w ∧
      ∀ x, ¬ wordsAt ref.address 13 x → readByte (s.setWorker ref w).mem x = readByte s.mem x

/-- In a table of at most 8,192 records in strictly ascending order of badge the lookup finds exactly the record that holds the
badge, within its 14 probes (R37, R38). -/
def Obligations.LookupFindsTheBadge : Prop :=
  ∀ (m : Memory) (t : Table) (badge : Nat), t.count ≤ 8192 →
    (∀ i j, i < j → j < t.count → badgeAt m t.base i < badgeAt m t.base j) →
    (∀ i, i < t.count → badgeAt m t.base i = badge → t.find m badge = some { base := t.base, index := i }) ∧
      ((∀ i, i < t.count → badgeAt m t.base i ≠ badge) → t.find m badge = none)

/-! ### Pay -/

/-- The amount: formed exactly by the formula of R102, within 40,265,280,000, and divided by 480 once, rounded down under CHOP and
on the half up under HALF_UP, within 83,886,000 (R102, R103). -/
def Obligations.AmountIsFormedAndRoundedOnce : Prop :=
  ∀ (rate factor premium mreg mot mn : Nat), rate ≤ 1048575 → factor ≤ 32 → premium ≤ 1048575 → mreg + mot ≤ 960 → mn ≤ 960 →
    let raw := rawAmount rate factor premium mreg mot mn
    raw = 8 * rate * mreg + factor * rate * mot + 8 * premium * mn ∧ raw ≤ 40265280000 ∧
      (∀ a, roundAmount false raw = a ↔ a * 480 ≤ raw ∧ raw < a * 480 + 480) ∧
      (∀ a, roundAmount true raw = a ↔ a * 480 ≤ raw + 240 ∧ raw + 240 < a * 480 + 480) ∧
      roundAmount true raw ≤ 83886000

/-- The finding for an IN: today's instance where the minute of the stamp lies in its window, else yesterday's, else none; of a day entry of
the group for that day's day of week that passes its check with a length above 0, whose window runs from early limit before the start to the
end, on the cycle of minutes; the day of week of a day is counted from the current day (R55, R61–R63).
The stages of a pair under a valid rule. The times are unrolled on the line of the day before the in stamp's day (R92). An instance pair has
them snapped (R93, R94); each is rounded by the mode to a multiple of q, a tie to the worker's favour (R95); the span is held from 0 to
57,600 s with its two flags (R96); the minutes less the break (R97) are split between regular and overtime by what remains of the daily cap
of the shift day, all to overtime under OFFSHIFT_AS_OT without an instance (R100, R101), at most 960 together; the night minutes are the paid
minutes whose minute of day lies in the night band, at most the minutes paid (R98, R99); the amount is that of R102 and R103. That a pair without a shift start is
off-shift whatever its OFF_SHIFT flag is the model's reading (log entry 42). -/
def Obligations.FindingAndStagesGiveTheirValues : Prop :=
  (∀ (s : State) (group base : Nat) (x : Stamp), s.engine.shift = some base → s.time.clock ≠ .unset → s.time.inRange → x.day < 65535 →
    x.second < 86400 →
    let yesterday := if x.day = 0 then 65534 else x.day - 1
    s.finding group none = none ∧
    ∀ u v : Nat, u < 7 → v < 7 →
      (∃ k : Int, -32767 ≤ k ∧ k ≤ 32767 ∧ ((s.time.day : Int) - x.day - k) % 65535 = 0 ∧ ((s.time.dow : Int) - k - u) % 7 = 0) →
      (∃ k : Int, -32767 ≤ k ∧ k ≤ 32767 ∧ ((s.time.day : Int) - yesterday - k) % 65535 = 0 ∧ ((s.time.dow : Int) - k - v) % 7 = 0) →
      let now := DayEntry.read s.mem base (group * 7 + u)
      let before := DayEntry.read s.mem base (group * 7 + v)
      let holds (e : DayEntry) (day : Nat) : Prop := e.valid = true ∧ 0 < e.length ∧
        ∃ k : Nat, k ≤ e.early + e.length ∧ ((x.day * 1440 + x.second / 60 : Int) - (day * 1440 + e.start - e.early + k)) % 94370400 = 0
      let found (e : DayEntry) (day : Nat) : Option Found :=
        some { day := day, start := e.start, length := e.length, graceIn := e.graceIn }
      (holds now x.day → s.finding group (some x) = found now x.day) ∧
      (¬ holds now x.day → holds before yesterday → s.finding group (some x) = found before yesterday) ∧
      (¬ holds now x.day → ¬ holds before yesterday → s.finding group (some x) = none)) ∧
  (∀ (r : PayRule) (lim : Limits) (w : Worker) (o : OpenIn) (tin tout : Stamp), tin.day < 65535 → tin.second < 86400 →
    let origin : Int := (if tin.day = 0 then 65534 else tin.day - 1 : Nat) * 86400
    let offset (abs : Int) (k : Int) : Prop := -2831112000 ≤ k ∧ k ≤ 2831111999 ∧ (abs - origin - k) % 5662224000 = 0
    let rd (d : Nat) : Nat := if w.rdDay = some d then w.rd else 0
    ∀ ti tOut : Int, offset (tin.day * 86400 + tin.second) ti → offset (tout.day * 86400 + tout.second) tOut →
      ti = 86400 + tin.second ∧
      (o.start = none → pairStages r lim w o tin tout = runStages r lim w.early w.rate tin.day ti tOut none none rd) ∧
      ∀ (day minute : Nat) (start : Int), o.start = some (day, minute) → offset (day * 86400 + minute * 60) start →
        pairStages r lim w o tin tout =
          runStages r lim w.early w.rate tin.day ti tOut (some (start, start + 60 * o.length)) (some day) rd) ∧
  ∀ (r : PayRule) (lim : Limits) (early : Bool) (rate inDay : Nat) (ti tOut : Int) (shift : Option (Int × Int))
    (day : Option Nat) (rdFor : Nat → Nat), r.valid = true → inDay < 65535 →
    let x := runStages r lim early rate inDay ti tOut shift day rdFor
    x.mreg + x.mot ≤ 960 ∧ x.mn ≤ x.mreg + x.mot ∧ (x.zeroSpan = true → x.mreg + x.mot = 0 ∧ x.amount = 0) ∧
    ∃ ti1 to1 ti2 to2 : Int,
      let q : Int := 60 * r.q
      let span := to2 - ti2
      let w := max 0 (min 57600 span)
      let m0 := (w / 60).toNat
      let inBand (m : Int) : Bool := if r.nightStart < r.nightEnd then decide (r.nightStart ≤ m ∧ m < r.nightEnd)
        else decide (r.nightStart ≤ m ∨ m < r.nightEnd)
      (shift = none → ti1 = ti ∧ to1 = tOut) ∧
      (∀ start stop, shift = some (start, stop) →
        (ti < start → ti1 = if early then ti else start) ∧ (start ≤ ti → ti ≤ start + 60 * lim.graceIn → ti1 = start) ∧
        (start ≤ ti → start + 60 * lim.graceIn < ti → ti1 = ti) ∧
        (stop - 60 * lim.graceOut ≤ tOut → tOut ≤ stop + 60 * lim.late → to1 = stop) ∧
        (tOut < stop - 60 * lim.graceOut ∨ stop + 60 * lim.late < tOut → to1 = tOut)) ∧
      ti2 % q = 0 ∧ to2 % q = 0 ∧
      (r.mode = 0 → ti1 ≤ ti2 ∧ ti2 < ti1 + q ∧ to2 ≤ to1 ∧ to1 < to2 + q) ∧
      (r.mode = 1 → 2 * (ti2 - ti1) < q ∧ 2 * (ti1 - ti2) ≤ q ∧ 2 * (to2 - to1) ≤ q ∧ 2 * (to1 - to2) < q) ∧
      (r.mode = 2 → ti2 ≤ ti1 ∧ ti1 < ti2 + q ∧ to1 ≤ to2 ∧ to2 < to1 + q) ∧
      x.zeroSpan = decide (span < 0) ∧ x.overLimit = decide (57600 < span) ∧ 60 * (m0 : Int) = w ∧
      x.breakTaken = decide (0 < r.breakAt ∧ r.breakAt ≤ m0) ∧
      x.mreg + x.mot = (if x.breakTaken then m0 - r.breakLen else m0) ∧
      x.mn = (if r.nightStart = r.nightEnd then 0
        else min ((List.range m0).filter fun k : Nat => inBand ((ti2 / 60 + k) % 1440)).length (x.mreg + x.mot)) ∧
      (∀ d, day = some d → x.shiftDay = d) ∧
      (day = none → 0 ≤ ti2 → x.shiftDay < 65535 ∧ ((x.shiftDay : Int) - (inDay - 1 + ti2 / 86400)) % 65535 = 0) ∧
      x.mreg = (if shift = none ∧ r.offShiftAsOt = true then 0 else min (x.mreg + x.mot) (r.cap - rdFor x.shiftDay)) ∧
      x.amount = roundAmount r.halfUp (8 * rate * x.mreg + r.factor * rate * x.mot + 8 * r.premium * x.mn)

/-! ### Power-up, HOST RESTART, the registers -/

/-- POWER_UP: the supply state is decided by the first sample, the registers read as R187 gives for power-up, common memory is
kept, and nothing is held (R2, R127, R151, R187). That every other field is that of reset, and that the queue of commands stands,
is the model's choice (log entry 7).
HOST_RESTART: the enables are zero and the attention line released, every latched cause is clear, the end mark of a walk with an
order in hand is set and that of an idle walk stands; all else is as before (R200). -/
def Obligations.ResetsLeaveWhatTheyKeep : Prop :=
  (∀ (v : Nat) (s : State), ∃ t, exec (.powerUp v) s = .next t ∧
    t.supply = { state := if v < 190 then .low else .normal, lowRun := 0, recoveryRun := 0 } ∧ t.mem = s.mem ∧
    t.pending = s.pending ∧ t.time = State.reset.time ∧ t.control.runState = .stopped ∧ t.controlRead = 0 ∧
    t.orderPointerRead = 0 ∧ t.attentionRead = 0 ∧ t.enableRead = 0 ∧ t.fillRead = 0 ∧ t.alarmLaw ∧
    (t.control.alarm = true ↔ v < 190) ∧ t.engine = State.reset.engine ∧ t.doors = State.reset.doors ∧
    t.readers = State.reset.readers ∧ t.links = State.reset.links ∧ t.arbiter = State.reset.arbiter ∧
    t.bells = State.reset.bells ∧ t.journal = State.reset.journal ∧ t.orders = State.reset.orders ∧
    t.control.statusBlock = none ∧ t.control.stretch = none) ∧
  ∀ s : State, s.betweenEvents → (s.orders.walking = true → s.orders.inHand ≠ none) →
    ∃ t, exec .hostRestart s = .next t ∧ t.attentionLine = false ∧
      EndsAs { s with control := { s.control with enables := 0, latched := Latched.clear },
                      orders := { s.orders with endMark := s.orders.walking || s.orders.endMark } } t

/-- ATTENTION_WRITE clears the latched causes written 1 and no other, ATTENTION_ENABLE_WRITE takes all enables as written, REGISTER_WRITE
is ignored; a level cause follows its condition (R187, R199). -/
def Obligations.RegisterWritesActOnAttentionAlone : Prop :=
  ∀ (w : Word) (r : ReadOnlyRegister) (s : State),
    (∃ t, exec (.attentionWrite w) s = .next t ∧ t = { s with control := { s.control with latched := t.control.latched } } ∧
      (∀ i, i < 10 → flagAt t.attentionRead i = (flagAt s.attentionRead i && !flagAt w i)) ∧
      flagAt t.attentionRead 10 = s.levelActive ∧ flagAt t.attentionRead 11 = s.holdActive) ∧
    (∃ t, exec (.attentionEnableWrite w) s = .next t ∧ t = { s with control := { s.control with enables := t.control.enables } } ∧
      ∀ i, i < 32 → flagAt t.enableRead i = (decide (i < 12) && flagAt w i)) ∧
    exec (.registerWrite r w) s = .next s

/-! ### The time base -/

/-- TICK where the second does not pass 59: the tick goes up by 1, from 19 to 0 with the second up by 1; nothing else moves.
LOCAL_MINUTE_ROLL, and TICK at the same instant: the minute advances with the day and the day of week on a day roll; LM becomes the new
minute when it is behind it and the clock is not UNSET; in LOCKED and RESYNC the silence count goes up by 1, and at 3 the clock becomes FREE
with TIME latched and a FREE_RUN notice of the state left; where no boundary is raised and the clock is kept nothing else moves (R1, R9,
R10). A boundary raised in RUNNING starts an idle sweep from index 0, or sets the pending mark of a sweep or a carry (R119). It makes a
pending bell table current in any run state; silenced, or out of RUNNING, it selects nothing; else, of a table of one entry for one line or
one gate, an entry of its minute and day is appended to the line with its due time, or makes a QUEUE_FULL notice where the line holds 4, or
is held as the free send of the gate at its due time; while the supply is LOW it makes a SUPPLY notice alone; one of its minute that fails
its check makes an ENTRY_INVALID notice, and any other does nothing (R160, R162–R165, R168). Of a gate whose end minute it reaches, and
where no bell entry is selected, it drops the pending request, ends the window in FREE, in IDLE or, with the contact OPEN, in CLOSING with
the held-open timer running, withdraws the claim of a free cycle, and ends its hit, the measures written and the slot passed to the head of
the list or left free; it leaves an end minute it does not reach (R132, R142, R145, R155, R156). In a table in order the entry sought is the
first whose minute is equal or greater (R162). -/
def Obligations.TickAndRollAdvanceTheCounts : Prop :=
  (∀ (m : Memory) (base count minute : Nat),
    (∀ i j, i < j → j < count → (BellEntry.read m base i).minute ≤ (BellEntry.read m base j).minute) →
    let k := firstAtLeast m base minute count 0 count
    k ≤ count ∧ (∀ i, i < k → (BellEntry.read m base i).minute < minute) ∧
      ∀ i, k ≤ i → i < count → minute ≤ (BellEntry.read m base i).minute) ∧
  ∀ s : State, s.betweenEvents →
    (¬ (s.time.tick = 19 ∧ s.time.second = 59) → ∃ t, exec .tick s = .next t ∧
      EndsAs { s with time := { s.time with tick := if s.time.tick < 19 then s.time.tick + 1 else 0,
                                            second := if s.time.tick < 19 then s.time.second else s.time.second + 1,
                                            osc := s.time.osc + 1 } } t) ∧
    (s.time.tick = 19 → s.time.second = 59 →
      let roll := decide (s.time.minute < 1439)
      let minute := if roll then s.time.minute + 1 else 0
      let day := if roll then s.time.day else (s.time.day + 1) % 65535
      let dow := if roll then s.time.dow else (s.time.dow + 1) % 7
      let n := day * 1440 + minute
      let raised := s.time.clock ≠ .unset ∧ lmBehind s.time.lm n = true
      let judged := s.time.clock = .locked ∨ s.time.clock = .resync
      let lost := judged ∧ 3 ≤ s.time.silence + 1
      let time : TimeBase := { s.time with
        tick := 0, second := 0, minute := minute, day := day, dow := dow,
        osc := s.time.osc + 1, lm := if raised then some n else s.time.lm, clock := if lost then .free else s.time.clock,
        candidate := if lost then none else s.time.candidate,
        silence := if lost then 3 else if judged then s.time.silence + 1 else s.time.silence }
      (∃ t, exec .localMinuteRoll s = .next t ∧ exec .tick s = .next t ∧ t.time = time ∧
        (lost → t.control.latched.time = true) ∧ t.readers = s.readers ∧ t.links = s.links ∧ t.supply = s.supply ∧
        t.pending = s.pending ∧ (¬ lost → ¬ raised → EndsAs { s with time := time } t)) ∧
      let running := s.control.runState = .running
      let engine : Engine :=
        if ¬ (raised ∧ running) then s.engine
        else if s.engine.sweep = .idle ∧ s.engine.install.inCarry = false then { s.engine with sweep := .running, sweepCursor := 0 }
        else { s.engine with sweepPending := true }
      let swept : State := { s with time := time, engine := engine }
      let silenced := ∃ e, s.bells.silenceEnd = some e ∧ minuteBehind n e = true
      let noEntry := s.bells.silenceEnd = none ∧ ∀ table i, s.bells.current = some table → i < table.count →
        (BellEntry.read s.mem table.base i).minute ≠ minute
      let noBells := s.bells.pendingTable = none ∧ (silenced ∨ noEntry)
      (noBells → (∀ g, (s.door g).freeEnd = none) → s.noticeRoom 1 → ∃ t, exec .localMinuteRoll s = .next t ∧
        EndsAs (if lost then (swept.notice (freeRunNotice s.time.lastMark (s.time.clock == .resync))).latch Latched.setTime
                else swept) t) ∧
      (raised → ¬ lost → (∀ g, (s.door g).freeEnd = none) →
        let bells := if s.bells.pendingTable = none then s.bells
          else { s.bells with current := s.bells.pendingTable, pendingTable := none }
        (¬ running → ∃ t, exec .localMinuteRoll s = .next t ∧ EndsAs { swept with bells := bells } t) ∧
        (∀ e, running → s.bells.silenceEnd = some e → minuteBehind n e = true → ∃ t, exec .localMinuteRoll s = .next t ∧
          EndsAs { swept with bells := bells } t) ∧
        (∀ table, running → (∀ e, s.bells.silenceEnd = some e → minuteBehind n e = false) → bells.current = some table →
          table.count = 1 → s.time.dow < 7 →
          let entry := BellEntry.read s.mem table.base 0
          let u : State := { swept with bells := { bells with silenceEnd := none } }
          (entry.minute ≠ minute ∨ entry.valid = true ∧ maskBit entry.dayMask dow = false →
            ∃ t, exec .localMinuteRoll s = .next t ∧ EndsAs u t) ∧
          (entry.minute = minute → entry.valid = false → s.noticeRoom 1 → ∃ t, exec .localMinuteRoll s = .next t ∧
            EndsAs (u.bellNoticeAt .entryInvalid none (some 0) 0) t) ∧
          (entry.minute = minute → entry.valid = true → maskBit entry.dayMask dow = true → s.supply.state = .low →
            (entry.lineMask ≠ 0 ∨ entry.freeWindow ≠ 0) → s.noticeRoom 1 → ∃ t, exec .localMinuteRoll s = .next t ∧
              EndsAs (u.bellNoticeAt .supply none (some 0) entry.lineMask) t) ∧
          (∀ k : LineNo, entry.minute = minute → entry.valid = true → maskBit entry.dayMask dow = true → s.supply.state = .normal →
            entry.lineMask = 2 ^ k.val → entry.freeWindow = 0 → 4 ≤ (s.line k).queue.length → s.noticeRoom 1 →
            ∃ t, exec .localMinuteRoll s = .next t ∧ EndsAs (u.bellNoticeAt .queueFull (some k.val) (some 0) 0) t) ∧
          (∀ k : LineNo, entry.minute = minute → entry.valid = true → maskBit entry.dayMask dow = true → s.supply.state = .normal →
            entry.lineMask = 2 ^ k.val → entry.freeWindow = 0 → (s.line k).queue.length < 4 → ∃ t, exec .localMinuteRoll s = .next t ∧
              let l := s.line k
              let queue := l.queue ++ [{ entry := some 0, pulses := if entry.pulses = 0 then 1 else entry.pulses,
                                         onTime := entry.onTime, gap := entry.gap, due := some ((n * 60 + entry.startDelay) * 20) }]
              EndsAs (u.setLine k (if l.state = .idle then
                { l with queue := queue, state := .delay, pulsesDone := 0, granted := false, cut := false }
                else { l with queue := queue })) t) ∧
          (∀ g : Gate, entry.minute = minute → entry.valid = true → maskBit entry.dayMask dow = true → s.supply.state = .normal → entry.lineMask = 0 →
            entry.freeMask = 2 ^ g.val → 0 < entry.freeWindow → 0 < entry.startDelay → n < 94370400 → s.freeSend g = none →
            ∃ t, exec .localMinuteRoll s = .next t ∧
              EndsAs (u.setFreeSend g (some { sendTime := (n * 60 + entry.startDelay) * 20,
                                              endMinute := (n + entry.freeWindow) % 94370400, entry := 0 })) t))) ∧
      (∀ (g : Gate) (e : Nat), noBells → raised → ¬ lost → (s.door g).freeEnd = some e →
        (∀ h, h ≠ g → (s.door h).freeEnd = none) →
        let d := s.door g
        (minuteReached e n = false → ∃ t, exec .localMinuteRoll s = .next t ∧ EndsAs swept t) ∧
        (minuteReached e n = true → d.freePending = true → ∃ t, exec .localMinuteRoll s = .next t ∧
          EndsAs (swept.setDoor g { d with freePending := false, freeEnd := none }) t) ∧
        let idle (d : Door) : Door := { d with state := .idle, freeEnd := none, served := none, openTimer := none }
        (minuteReached e n = true → d.freePending = false → d.state = .free → d.contact = .closed → s.queue g = [] →
          ∃ t, exec .localMinuteRoll s = .next t ∧ EndsAs (swept.setDoor g (idle d)) t) ∧
        (minuteReached e n = true → d.freePending = false → d.state = .free → d.contact = .opened →
          ∃ t, exec .localMinuteRoll s = .next t ∧ EndsAs (swept.setDoor g { d with
            state := .closing, freeEnd := none, served := none, openTimer := none, heldTimer := d.heldFrom (s.time.osc + 1) }) t) ∧
        (minuteReached e n = true → d.freePending = false → d.state = .claim → d.cycle = .free →
          Claimant.door g ∈ s.arbiter.requests → s.queue g = [] → ∃ t, exec .localMinuteRoll s = .next t ∧
            EndsAs ((swept.withArbiter { s.arbiter with requests := s.arbiter.requests.erase (.door g) }).setDoor g (idle d)) t) ∧
        (∀ released, minuteReached e n = true → d.freePending = false → d.state = .hit → d.cycle = .free →
          s.arbiter.holder = some (.door g) → s.queue g = [] → swept.slotPasses released →
          ∃ t, exec .localMinuteRoll s = .next t ∧ EndsAs (released.setDoor g (idle d.measured)) t)))

/-- MARK. A mark whose four bytes do not add to 0 modulo 256, or whose minute or day of week is out of range, adds 1 to the mark error
count, which stops at 65535, and changes nothing else (R3); in UNSET a mark that passes is ignored (R2). In LOCKED the expected mark is
accepted, a duplicate is ignored, and any other becomes the candidate with the clock in RESYNC, the counts running on (R4). In FREE the mark
of the local minute or of the next one is accepted, and any other held as the candidate with the silence count 0 (R5). In RESYNC the mark
after the candidate is accepted as a resync, the candidate again ignored, a mark of the local minute or the next accepted without one, and
any other is the new candidate (R6). An accepted mark is applied as R7 gives: its implied minute M lies within half a week, the counts are
those of M:00.0, the clock is LOCKED with the silence count 0; the minute boundaries of the table of R8 are raised in its order; and one
notice is made after them, RESYNC for a resync, STEP for a step, SKIP for a trim with skipped or held-back minutes, with the old minute, M,
the offset of a step and the two counts, or none (R7, R8, R15). Where the boundaries select no bell entry, for the table is empty, its
entries are of other minutes or bells are silenced past them, and no gate has a free end minute, they start an idle sweep or set its pending
mark, and that with the notice is all (R119, R145, R162, R168). That the boundaries come before the notice is the model's reading (log entry
49). That the RESYNC notice of a trim carries offset 0 is the model's reading (log entry 36); that a notice with both counts 0 holds count
kind 0 is its choice (log entry 73). -/
def Obligations.MarkIsCheckedAndJudged : Prop :=
  ∀ (hi lo dow check : Byte) (s : State), s.betweenEvents →
    (hi + lo + dow + check ≠ 0 ∨ 1439 < hi.toNat * 256 + lo.toNat ∨ 6 < dow.toNat →
      ∃ t, exec (.mark hi lo dow check) s = .next t ∧
        EndsAs { s with time := { s.time with
          markErrors := if s.time.markErrors < 65535 then s.time.markErrors + 1 else s.time.markErrors } } t) ∧
    (∀ x : ClockMark, hi + lo + dow + check = 0 → x.minute = hi.toNat * 256 + lo.toNat → x.minute ≤ 1439 → x.dow = dow.toNat →
      x.dow ≤ 6 →
      let m := s.time.impliedMinute x
      let time : TimeBase := { s.time with
        tick := 0, second := 0, minute := x.minute, dow := x.dow, day := m / 1440, lastMark := some x, candidate := none,
        silence := 0, clock := .locked, lm := if lmBehind s.time.lm m then some m else s.time.lm }
      let here : ClockMark := { minute := s.time.minute, dow := s.time.dow }
      let isLocal := x = here ∨ x = here.next
      let d := s.time.ticksPast m
      let trim := -100 ≤ d ∧ d ≤ 100
      let gap := match s.time.lm with
        | none => 1
        | some l => if minuteBehind l m then ahead minuteCycle l m else 0
      let back (k : Nat) : Nat := (m + 94370400 - k) % 94370400
      let minutes : List Nat := if gap = 0 then [] else if gap = 2 then [back 1, m] else if gap = 3 then [back 2, back 1, m] else [m]
      let skipped := if 4 ≤ gap then min 65535 (gap - 1) else 0
      let heldBack := match s.time.lm with
        | none => 0
        | some l => if gap = 0 then min 65535 (ahead minuteCycle m l) else 0
      let applied (resync : Bool) (t : State) : Prop :=
        t.time = time ∧ t.readers = s.readers ∧ t.links = s.links ∧ t.supply = s.supply ∧ t.pending = s.pending ∧
          let noticed (u : State) : State :=
            let record (c : TimeCause) (offset : Int) : State :=
              u.notice (timeNotice c (some (s.time.day * 1440 + s.time.minute)) m offset skipped heldBack)
            if resync then record .resync (if trim then 0 else max (-32767) (min 32767 ((-d).tdiv 20)))
            else if ¬ trim then record .step (max (-32767) (min 32767 ((-d).tdiv 20)))
            else if 0 < skipped ∨ 0 < heldBack then record .skip 0 else u
          let raised := minutes.foldl State.raiseBoundary (s.withTime { time with lm := s.time.lm })
          (raised.betweenEvents → raised.noticeRoom 1 → EndsAs (noticed raised) t) ∧
          let silenced := ∃ e, s.bells.silenceEnd = some e ∧ ∀ b ∈ minutes, minuteBehind b e = true
          let noEntry := s.bells.silenceEnd = none ∧ ∀ table i b, s.bells.current = some table → i < table.count → b ∈ minutes →
            (BellEntry.read s.mem table.base i).minute ≠ b % 1440
          let engine : Engine :=
            if s.control.runState ≠ .running ∨ minutes = [] then s.engine
            else if s.engine.sweep = .idle ∧ s.engine.install.inCarry = false then
              { s.engine with sweep := .running, sweepCursor := 0,
                              sweepPending := s.engine.sweepPending || decide (2 ≤ minutes.length) }
            else { s.engine with sweepPending := true }
          (s.bells.pendingTable = none → (silenced ∨ noEntry) → (∀ g, (s.door g).freeEnd = none) → s.noticeRoom 1 →
            EndsAs (noticed { s with time := time, engine := engine }) t)
      (∀ δ : Int, -5040 ≤ δ → δ ≤ 5039 →
        (x.dow * 1440 + x.minute - (s.time.dow * 1440 + s.time.minute) - δ) % 10080 = 0 →
        m = (((s.time.day * 1440 + s.time.minute : Nat) + δ) % 94370400).toNat) ∧
      (s.time.clock = .unset → ∃ t, exec (.mark hi lo dow check) s = .next t ∧ EndsAs s t) ∧
      (∀ a : ClockMark, s.time.clock = .locked → s.time.lastMark = some a →
        (x = a.next → ∃ t, exec (.mark hi lo dow check) s = .next t ∧ applied false t ∧
          (s.time.lm = some m → m < 94370400 → -100 ≤ s.time.ticksPast m → s.time.ticksPast m ≤ 100 →
            EndsAs { s with time := time } t)) ∧
        (x ≠ a.next → x = a → ∃ t, exec (.mark hi lo dow check) s = .next t ∧ EndsAs s t) ∧
        (x ≠ a.next → x ≠ a → ∃ t, exec (.mark hi lo dow check) s = .next t ∧
          EndsAs { s with time := { s.time with clock := .resync, candidate := some x } } t)) ∧
      (s.time.clock = .free →
        (isLocal → ∃ t, exec (.mark hi lo dow check) s = .next t ∧ applied false t) ∧
        (¬ isLocal → ∃ t, exec (.mark hi lo dow check) s = .next t ∧
          EndsAs { s with time := { s.time with clock := .resync, candidate := some x, silence := 0 } } t)) ∧
      (∀ c : ClockMark, s.time.clock = .resync → s.time.candidate = some c →
        (x = c.next → ∃ t, exec (.mark hi lo dow check) s = .next t ∧ applied true t) ∧
        (x ≠ c.next → x = c → ∃ t, exec (.mark hi lo dow check) s = .next t ∧ EndsAs s t) ∧
        (x ≠ c.next → x ≠ c → isLocal → ∃ t, exec (.mark hi lo dow check) s = .next t ∧ applied false t) ∧
        (x ≠ c.next → x ≠ c → ¬ isLocal → ∃ t, exec (.mark hi lo dow check) s = .next t ∧
          EndsAs { s with time := { s.time with candidate := some x } } t)))

/-! ### Reader links -/

/-- POLL: on a link without an exchange, the first due address of the round from where it resumes is polled with the frame of its
position: sync 0C5h, the address, the code and the tone of the outstanding indication (NONE and 0 without one, tone 0 but with DENY), its
sequence in bits 7–6 with the acknowledged report sequence in bits 3–0 under bit 4, and the check byte, which brings the register of R21 to
0 over the covered bytes; the round moves on after it, and a PROBING or OFFLINE position is due again one second on
(R16, R18, R19, R21). That bits 3–0 are 0 without an acknowledgement is the model's choice (log entry 38). -/
def Obligations.PollVisitsTheNextDueAddress : Prop :=
  ∀ (k : LinkNo) (a : Fin 4) (s : State), s.betweenEvents → (s.link k).exchange = none →
    (s.reader (positionOf k a)).due s.time.absTick = true →
    (∀ x : Fin 4, (x - (s.link k).nextAddress).val < (a - (s.link k).nextAddress).val →
      (s.reader (positionOf k x)).due s.time.absTick = false) →
    let r := s.reader (positionOf k a)
    let code : Nat := match r.outstanding with
      | none => 0
      | some i => match i.code with
        | .accept => 1
        | .recorded => 2
        | .deny => 3
        | .wait => 4
    let tone := match r.outstanding with
      | some { code := .deny, tone := n } => n % 16
      | _ => 0
    let sequences := r.indCounter % 4 * 64 + match r.lastReport with
      | none => 0
      | some q => 16 + q % 16
    let covered : List Byte := [BitVec.ofNat 8 a.val, BitVec.ofNat 8 code, BitVec.ofNat 8 tone, BitVec.ofNat 8 sequences]
    ((covered ++ [checkByte covered]).flatMap msbFirst).foldl crcBit 0xFF#8 = 0 ∧
    ∃ t, exec (.poll k) s = .next t ∧
      EndsAs ((s.setLink k { nextAddress := a + 1,
                             exchange := some { address := a, frame := [0xC5#8] ++ covered ++ [checkByte covered] } }).setReader
        (positionOf k a) { r with
          probeDue := if r.state = .online then r.probeDue else (s.time.absTick + 20) % tickCycle }) t

/-- NO_RESPONSE, and RESPONSE_FRAME of a frame that fails. A frame of other than ten bytes, with a bad stop bit or without its sync byte
is a FRAME_ERROR, then a wrong check byte is a CHECK_ERROR, then another address is a FRAME_ERROR. The exchange ends and the failure is
counted under its kind; an ONLINE position goes one further in its failure run, and at 5 it is OFFLINE with its run 0, its indication
dropped, its probe due one second on, a notice of the kind made and READER latched (R20, R22, R24). That the whole address byte is compared
is the model's choice (log entry 39). -/
def Obligations.FailedExchangeIsCounted : Prop :=
  ∀ (k : LinkNo) (x : Exchange) (bytes : List Byte) (stopBits : Bool) (c : Instr) (kind : Nat) (s : State),
    let p := positionOf k x.address
    let r := s.reader p
    let framed := bytes.length = 10 ∧ stopBits = true ∧ bytes.getD 0 0 = 0xC5#8
    let checked := bytes.getD 9 0 = checkByte ((bytes.drop 1).take 8)
    let counted :=
      if kind = 1 then { r with checkErrors := bump r.checkErrors }
      else if kind = 2 then { r with noResponses := bump r.noResponses }
      else { r with frameErrors := bump r.frameErrors }
    let ended := s.setLink k { s.link k with exchange := none }
    s.betweenEvents → (s.link k).exchange = some x → s.noticeRoom 1 →
    (c = .noResponse k ∧ kind = 2 ∨ c = .responseFrame k bytes stopBits ∧ (framed ∧ ¬ checked ∧ kind = 1 ∨
      (¬ framed ∨ checked ∧ (bytes.getD 1 0).toNat ≠ x.address.val) ∧ kind = 3)) →
    (r.state ≠ .online → ∃ t, exec c s = .next t ∧ EndsAs (ended.setReader p counted) t) ∧
    (r.state = .online → r.failRun + 1 < 5 → ∃ t, exec c s = .next t ∧
      EndsAs (ended.setReader p { counted with failRun := r.failRun + 1 }) t) ∧
    (r.state = .online → 5 ≤ r.failRun + 1 → ∃ t, exec c s = .next t ∧
      EndsAs (((ended.setReader p { counted with
        state := .offline, failRun := 0, outstanding := none, probeDue := (s.time.absTick + 20) % tickCycle }).readerNoticeAt p
          (.offline kind)).latch Latched.setReader) t)

/-- RESPONSE_FRAME that is good. From an ONLINE position: the failure run is 0, the flags are taken, the echo of the outstanding sequence
delivers the indication; without a report, or with the last accepted one, a rising TAMPER and then a rising SENSOR_FAULT make their notices
and latch READER, and with neither nothing else happens; a new report younger than 100 units is handed over as a presentation with the
stamp of its age, and an older one is STALE: counted, not presented, answered by a WAIT indication. From a PROBING or OFFLINE position: it
is ONLINE with the acknowledgement unknown and its counter from the echo, and a notice is made; a report it carries is new whatever its
sequence, handed over or STALE in the same way (R22, R25, R26, R28–R31). -/
def Obligations.GoodResponseIsTaken : Prop :=
  ∀ (k : LinkNo) (x : Exchange) (bytes : List Byte) (s : State), s.betweenEvents → (s.link k).exchange = some x →
    bytes.length = 10 → bytes.getD 0 0 = 0xC5#8 → bytes.getD 9 0 = checkByte ((bytes.drop 1).take 8) →
    (bytes.getD 1 0).toNat = x.address.val →
    let p := positionOf k x.address
    let r := s.reader p
    let b (i : Nat) : Nat := (bytes.getD i 0).toNat
    let flags := { r with failRun := 0, tamper := b 2 % 2 == 1, sensorFault := b 2 / 2 % 2 == 1 }
    let r' := { flags with outstanding := if r.outstanding.isSome ∧ r.indCounter = b 3 / 64 then none else r.outstanding }
    let ended := s.setLink k { s.link k with exchange := none }
    let tamper := b 2 % 2 = 1 ∧ r.tamper = false
    let fault := b 2 / 2 % 2 = 1 ∧ r.sensorFault = false
    let new := b 3 / 16 % 2 = 1 ∧ r.lastReport ≠ some (b 3 % 16)
    let stales := if r.stales < 65535 then r.stales + 1 else r.stales
    let handed (g : Gate) (role : Role) : Engine := { s.engine with
      handed := s.engine.handed ++ [{ position := p, gate := g, role := role, badge := ((b 4 * 256 + b 5) * 256 + b 6) * 256 + b 7,
                                      stamp := s.time.reportStamp (b 8) }] }
    (r.state = .online → ¬ new → s.noticeRoom 2 →
      let one (rises : Prop) [Decidable rises] (c : ReaderCause) (u : State) : State :=
        if rises then (u.readerNoticeAt p c).latch Latched.setReader else u
      ∃ t, exec (.responseFrame k bytes true) s = .next t ∧ EndsAs (one fault .sensorFault (one tamper .tamper (ended.setReader p r'))) t) ∧
    (¬ tamper → ¬ fault →
      (r.state = .online → ¬ new → ∃ t, exec (.responseFrame k bytes true) s = .next t ∧ EndsAs (ended.setReader p r') t) ∧
      (∀ g role, r.state = .online → new → b 8 < 100 → r.placed = some (g, role) →
        ∃ t, exec (.responseFrame k bytes true) s = .next t ∧
          EndsAs ((ended.setReader p { r' with lastReport := some (b 3 % 16) }).withEngine (handed g role)) t) ∧
      (r.state = .online → new → 100 ≤ b 8 → ∃ t, exec (.responseFrame k bytes true) s = .next t ∧
        EndsAs (ended.setReader p { r' with
          lastReport := some (b 3 % 16), stales := stales, indCounter := (r.indCounter + 1) % 4,
          outstanding := some { code := .wait, tone := 0 } }) t) ∧
      ((r.state = .probing ∨ r.state = .offline) → s.noticeRoom 1 →
        let back : Reader := { flags with state := .online, lastReport := none, indCounter := b 3 / 64, outstanding := none }
        let online (r : Reader) : State :=
          (ended.setReader p r).readerNoticeAt p (.online (if (s.reader p).state = .probing then 1 else 2))
        (b 3 / 16 % 2 = 0 → ∃ t, exec (.responseFrame k bytes true) s = .next t ∧ EndsAs (online back) t) ∧
        (∀ g role, b 3 / 16 % 2 = 1 → b 8 < 100 → r.placed = some (g, role) →
          ∃ t, exec (.responseFrame k bytes true) s = .next t ∧
            EndsAs ((online { back with lastReport := some (b 3 % 16) }).withEngine (handed g role)) t) ∧
        (b 3 / 16 % 2 = 1 → 100 ≤ b 8 → ∃ t, exec (.responseFrame k bytes true) s = .next t ∧
          EndsAs (online { back with
            lastReport := some (b 3 % 16), stales := stales, indCounter := (b 3 / 64 + 1) % 4,
            outstanding := some { code := .wait, tone := 0 } }) t)))

/-! ### Presentations and commits -/

/-- PRESENTATION turned away. Outside RUNNING it is taken and answered WAIT, with no lookup, no room asked, no record and no count, the
indication dropped at a position that is not ONLINE (R27, R69, R78). In RUNNING with no journal held, or with too little room in a damaged
one, it is answered WAIT, counted in DENIALS_UNRECORDED, and JOURNAL_HOLD runs (R70, R175, R183, R184). With the room there, the
direction is by role at a TWO_READER gate and by presence at a ONE_READER gate, INSIDE giving OUT (R66, R68). DENY with its tone is shown, and
a DENIAL of 4 words written with the next sequence, for the first that holds of: a badge not found, SUSPENDED, a gate the mask lacks,
a door out of service or unequipped or a LOW supply, an IN of an INSIDE worker who is not exempt, an IN out of its window; a repeat at
the same reader within the repeat window, before these last two, is answered RECORDED, and a punch in flight, or 4 entries in the queue,
WAIT; these two write nothing. The reservation is back; nothing else moves (R67, R71–R79, R178). That an in-flight code of 8 to 14 is a punch
in flight, and that 4 entries give WAIT at a door in FREE too, are the model's choices (log entries 40, 44). -/
def Obligations.TurnedAwayPresentationIsAnswered : Prop :=
  ∀ (n : Nat) (p : Presentation) (s : State), s.betweenEvents → s.engine.handed[n]? = some p →
    let taken := s.withEngine { s.engine with handed := s.engine.handed.eraseIdx n }
    (s.control.runState ≠ .running → ∃ t, exec (.presentation n) s = .next t ∧
      EndsAs (taken.setReader p.position
        (if (s.reader p.position).state = .online then
          { s.reader p.position with indCounter := ((s.reader p.position).indCounter + 1) % 4,
                                     outstanding := some { code := .wait, tone := 0 } }
         else s.reader p.position)) t) ∧
    (s.control.runState = .running → (s.journal.region = none ∨ s.journal.region.isSome = true ∧ s.journal.damaged = true ∧
        s.journal.freeWords < s.journal.holdLevel + 44) → ∃ t, exec (.presentation n) s = .next t ∧
      EndsAs ((taken.setReader p.position ((s.reader p.position).indicate { code := .wait, tone := 0 })).withJournal { s.journal with
        denialsUnrecorded := if s.journal.denialsUnrecorded < 65535 then s.journal.denialsUnrecorded + 1
                             else s.journal.denialsUnrecorded,
        holdTimer := some s.time.osc }) t) ∧
    ∀ r : Region, Memory.wf s.mem = true → s.control.runState = .running → s.noneWaitsForRoom →
      s.journal.region = some r → s.journal.placed r → s.journal.holdLevel + 44 ≤ s.journal.freeWords →
      let one := (s.gateEntry p.gate).oneReader
      let byRole : Direction := if p.role = .entry then .inward else .outward
      let denied (reason : DenialReason) (d : Direction) (t : State) : Prop :=
        EndsBut ((taken.setReader p.position
          ((s.reader p.position).indicate { code := .deny, tone := reason.code })).withJournal (s.journal.recorded r 4)) t
          (wordsAt s.journal.writePos 4) ∧
        (s.apartFromStatus s.journal.writePos 4 → readWords t.mem s.journal.writePos 4 =
          (denialRecord p d reason).header s.journal.nextSeq :: (denialRecord p d reason).body)
      let answered (code : IndCode) (t : State) : Prop :=
        EndsAs (taken.setReader p.position ((s.reader p.position).indicate { code := code, tone := 0 })) t
      (s.lookup p.badge = none →
        ∃ t, exec (.presentation n) s = .next t ∧ denied .unknownBadge (if one then .inward else byRole) t) ∧
      ∀ ref, s.lookup p.badge = some ref → (one = true → (s.worker ref).presence ≠ .reserved) →
        let w := s.worker ref
        let d : Direction := if one then (if w.presence = .inside then .outward else .inward) else byRole
        let door := s.door p.gate
        let faulted := door.state = .outOfService ∨ door.equipped = false ∨ s.supply.state = .low
        let window := (s.gateEntry p.gate).repeatWindow
        let repeats := 0 < window ∧ w.lastReader = some p.position.val ∧ w.lastStamp.isSome = true ∧ p.stamp.isSome = true ∧
          ((w.lastStamp.getD ⟨0, 0⟩).abs + window + 5662224000 - (p.stamp.getD ⟨0, 0⟩).abs) % 5662224000 ≤ window
        let passes := w.suspended = false ∧ w.mask / 2 ^ p.gate.val % 2 = 1 ∧ ¬ faulted
        (w.suspended = true → ∃ t, exec (.presentation n) s = .next t ∧ denied .suspended d t) ∧
        (w.suspended = false → w.mask / 2 ^ p.gate.val % 2 = 0 → ∃ t, exec (.presentation n) s = .next t ∧
          denied .gateNotPermitted d t) ∧
        (w.suspended = false → w.mask / 2 ^ p.gate.val % 2 = 1 → faulted → ∃ t, exec (.presentation n) s = .next t ∧
          denied .doorFault d t) ∧
        (passes → (∀ x, w.lastStamp = some x → x.abs < 5662224000) → (∀ x, p.stamp = some x → x.abs < 5662224000) →
          (repeats → ∃ t, exec (.presentation n) s = .next t ∧ answered .recorded t) ∧
          (¬ repeats → w.inFlight ≠ none → ∃ t, exec (.presentation n) s = .next t ∧ answered .wait t) ∧
          (¬ repeats → w.inFlight = none →
            let passback := d = .inward ∧ w.presence = .inside ∧ w.exempt = false
            let off := d = .inward ∧ w.windowEnforced = true ∧ s.finding w.group p.stamp = none
            (passback → ∃ t, exec (.presentation n) s = .next t ∧ denied .passback d t) ∧
            (¬ passback → off → ∃ t, exec (.presentation n) s = .next t ∧ denied .offWindow d t) ∧
            (¬ passback → ¬ off → 4 ≤ (s.queue p.gate).length → ∃ t, exec (.presentation n) s = .next t ∧ answered .wait t)))

/-- PRESENTATION accepted, every test of R67 passed, in the direction of its role at a TWO_READER gate and of the worker's presence at a
ONE_READER gate. At a door not in FREE the punch is appended with its 12-word reservation, the worker's last accepted presentation and
in-flight gate are written and nothing else of the record, ACCEPT is shown; a door out of IDLE goes on as it is, and an IDLE door starts its
hit with the slot free, or waits in CLAIM at the tail of the list. At a door in FREE the punch is committed at once with passage free, its
records with FREE and without NO_MOVE, from the reservation just made: no punch is in flight, nothing is queued, the last accepted
presentation is written, ACCEPT is shown. An IN has its open-in captured, INSIDE, a PUNCH_OPEN written; over an OPEN open-in the
PUNCH_UNPAIRED of MISSING_OUT comes first. An OUT leaves the worker OUTSIDE with open-in NONE: of an open-in OPEN its pair is closed by the
pay rules, with NONE a PUNCH_UNPAIRED of MISSING_IN is written; PASSBACK_SOFT stands for a worker found OUTSIDE. Exceptions are taken, or
lost, as at a commit of a queued punch (R66–R68, R76, R77, R83, R84, R87, R89–R109, R113–R117, R130, R131, R154). That the PUNCH_UNPAIRED of
an IN carries ENTRY_INVALID is log entry 43; the slot field of a PUNCH_CLOSE that took no slot is a free value (log entry 5). -/
def Obligations.AcceptedPresentationIsQueued : Prop :=
  ∀ (n : Nat) (p : Presentation) (ref : WorkerRef) (s : State),
    let w := s.worker ref
    let d := s.door p.gate
    let one := (s.gateEntry p.gate).oneReader
    let inward := if one then w.presence ≠ .inside else p.role = .entry
    let punch : Punch :=
      { worker := ref, direction := if inward then .inward else .outward, position := p.position, stamp := p.stamp,
        passbackSoft := ¬ inward ∧ w.presence = .outside, noMove := false, report := none }
    let answered := (s.withEngine { s.engine with handed := s.engine.handed.eraseIdx n }).setReader p.position
      ((s.reader p.position).indicate { code := .accept, tone := 0 })
    let u := (answered.setQueue p.gate (s.queue p.gate ++ [punch])).withJournal
      { s.journal with reserved := s.journal.reserved + 12 }
    s.betweenEvents → Memory.wf s.mem = true → s.engine.handed[n]? = some p → s.control.runState = .running →
    s.journal.region.isSome = true → s.journal.holdLevel + 44 ≤ s.journal.freeWords → s.lookup p.badge = some ref → w.inRange →
    s.recordApart ref → (one = true → w.presence ≠ .reserved) → w.suspended = false → maskBit w.mask p.gate.val = true →
    d.equipped = true → d.state ≠ .outOfService → s.supply.state = .normal →
    isRepeat (s.gateEntry p.gate).repeatWindow w p = false → w.inFlight = none →
    ¬ (inward ∧ w.presence = .inside ∧ w.exempt = false) →
    ¬ (inward ∧ w.windowEnforced = true ∧ s.finding w.group p.stamp = none) → (s.queue p.gate).length < 4 →
    (∀ x, p.stamp = some x → x.day < 65535 ∧ x.second < 86400) →
    (d.state ≠ .free → ∃ t, exec (.presentation n) s = .next t ∧
      t.worker ref = { w with inFlight := some p.gate.val, lastReader := some p.position.val, lastStamp := p.stamp } ∧
      (d.state ≠ .idle → EndsBut u t (wordsAt ref.address 13)) ∧
      (d.state = .idle → s.queue p.gate = [] → d.freePending = false → s.arbiter = { holder := none, requests := [] } →
        EndsBut ((u.withArbiter { holder := some (.door p.gate), requests := [] }).setDoor p.gate { d with
          state := .hit, cycle := .punch, served := some ref, overRun := 0,
          movement := { Movement.cleared with openAtStart := d.contact == .opened } }) t (wordsAt ref.address 13)) ∧
      (∀ c, d.state = .idle → s.queue p.gate = [] → d.freePending = false → s.arbiter.holder = some c → c ≠ .door p.gate →
        Claimant.door p.gate ∉ s.arbiter.requests →
        EndsBut ((u.withArbiter { s.arbiter with requests := s.arbiter.requests ++ [Claimant.door p.gate] }).setDoor p.gate { d with
          state := .claim, cycle := .punch, served := some ref }) t (wordsAt ref.address 13))) ∧
    (∀ r, d.state = .free → s.noneWaitsForRoom → s.journal.region = some r → s.journal.placed r → s.shiftApart ref →
      let seen (w : Worker) : Worker := { w with lastReader := some p.position.val, lastStamp := p.stamp }
      let enabled (c : ExcClass) : Bool := match s.payRule w.rule with
        | none => false
        | some x => x.enables c
      let free := s.engine.exceptions.bind (lowestFree s.mem)
      let new := captureOpenIn p.stamp p.gate.val (s.finding w.group p.stamp)
      let opened (slot : Option Nat) := punchOpen w.badge p.stamp new.start new.late new.offShift false true p.gate.val p.position.val slot
      let inside : Worker := seen { w with openIn := some new, presence := .inside }
      let out (w : Worker) : Worker := seen { w with openIn := none, presence := .outside }
      let flags : RecFlags := { passbackSoft := punch.passbackSoft, free := true }
      (inward → w.openIn = none → ∃ t, exec (.presentation n) s = .next t ∧ EndsWriting r (opened none) ref inside answered t) ∧
      (∀ o, inward → w.openIn = some o → s.slotsApart r w →
        let entryInvalid : Bool := match o.start.bind fun x => s.dayEntry w.group x.1 with
          | none => false
          | some e => !e.valid
        let both (slot : Option Nat) (f : RecFlags) : List JRecord :=
          [punchUnpaired w.badge o.stamp true o.gate 31 slot { f with late := o.late, offShift := o.offShift } entryInvalid, opened slot]
        (enabled .missingOut = false ∨ free = none → ∃ t, exec (.presentation n) s = .next t ∧
          EndsWritingAll r (both none { exceptionLost := enabled .missingOut }) ref inside answered t) ∧
        ∀ slots i, enabled .missingOut = true → s.engine.exceptions = some slots → free = some i →
          ∃ t, exec (.presentation n) s = .next t ∧
            EndsTakingAll r (both (some i) { exception := true }) ref inside slots i
              { code := .missingOut, index := ref.index, badge := w.badge, inStamp := o.stamp, outStamp := none, regular := 0,
                overtime := 0, night := 0, amount := 0, shiftDay := (match o.start with
                  | some x => some x.1
                  | none => o.stamp.map Stamp.day) } (s.quietFor w) answered t) ∧
      (¬ inward → w.openIn = none → s.slotsApart r w →
        let record (slot : Option Nat) (f : RecFlags) := punchUnpaired w.badge p.stamp false p.gate.val p.position.val slot f
        (enabled .missingIn = false ∨ free = none → ∃ t, exec (.presentation n) s = .next t ∧
          EndsWriting r (record none { flags with exceptionLost := enabled .missingIn }) ref (out w) answered t) ∧
        ∀ slots i, enabled .missingIn = true → s.engine.exceptions = some slots → free = some i →
          ∃ t, exec (.presentation n) s = .next t ∧
            EndsTaking r (record (some i) { flags with exception := true }) ref (out w) slots i
              { code := .missingIn, index := ref.index, badge := w.badge, inStamp := none, outStamp := p.stamp, regular := 0,
                overtime := 0, night := 0, amount := 0, shiftDay := p.stamp.map Stamp.day } (s.quietFor w) answered t) ∧
      ∀ o, ¬ inward → w.openIn = some o → s.slotsApart r w →
        s.ClosesByTheRules ref o p.stamp { flags with late := o.late, offShift := o.offShift } p.gate.val p.position.val
          (fun x w => ∃ t, exec (.presentation n) s = .next t ∧
            EndsWriting r x ref (out w) { answered with freeUsed := s.freeUsed + 1 } t)
          (fun x slots i fill => ∃ t, exec (.presentation n) s = .next t ∧
            EndsTaking r x ref (out w) slots i fill (s.quietFor w) answered t))

/-- COMMIT_NOT_PASSED and COMMIT_VOIDED of the reported head: its record of 4 words is written with the next sequence from the
reservation, which is given back whole, the punch leaves its queue, and of the worker record only the in-flight gate and the last
accepted reader and stamp become none (R82, R85, R86, R178); in STOPPING the commit of the last punch ends the stop where nothing else holds it
(R191, R192). -/
def Obligations.EndedPunchLeavesTheWorkerAsBefore : Prop :=
  ∀ (g : Gate) (p : Punch) (rest : List Punch) (r : Region) (c : Instr) (cause : Option VoidCause) (s : State),
    (c = .commitNotPassed g ∧ p.report = some .notPassed ∧ cause = none ∨
      ∃ v, c = .commitVoided g ∧ p.report = some (.voided v) ∧ cause = some v) →
    s.betweenEvents → Memory.wf s.mem = true → s.queue g = p :: rest → (s.control.runState = .running ∨ s.control.runState = .stopping) → s.noneWaitsForRoom →
    s.journal.region = some r → s.journal.placed r → 12 ≤ s.journal.reserved → (s.worker p.worker).inRange →
    s.recordApart p.worker →
    let record := punchEnded (s.worker p.worker).badge p g.val cause
    ∃ t, exec c s = .next t ∧
      t.worker p.worker = { s.worker p.worker with inFlight := none, lastReader := none, lastStamp := none } ∧
      EndsBut ((s.setQueue g rest).withJournal { s.journal.recorded r 4 with reserved := s.journal.reserved - 12 }).afterStop t
        (fun a => wordsAt s.journal.writePos 4 a ∨ wordsAt p.worker.address 13 a) ∧
      (s.apartFromStatus s.journal.writePos 4 →
        readWords t.mem s.journal.writePos 4 = record.header s.journal.nextSeq :: record.body)

/-- COMMIT_IN of a reported IN: the open-in is captured from the finding for the punch's stamp, with OFF_SHIFT exactly where it finds none,
the worker is INSIDE with no punch in flight, a PUNCH_OPEN of 4 words is written, the reservation is given back, the punch leaves its queue
(R64, R82, R83). Over an OPEN open-in a PUNCH_UNPAIRED of the old in stamp, gate and flags with the reader position none comes first, with
ENTRY_INVALID where the day entry of the old instance fails its check, and no total moves. Where the worker's rule enables MISSING_OUT and
a slot is FREE the exception is taken: the lowest FREE slot is PENDING with the old stamp, no values and the pair's shift day, both records
carry EXCEPTION and the slot, the pending count is one up, the last exception and, unless quiet, PAY_EXCEPTION are set; with no slot FREE the
PUNCH_UNPAIRED carries EXCEPTION_LOST (R61, R65, R112, R113, R115). That this record carries ENTRY_INVALID is log entry 43.
In STOPPING the commit of the last punch ends the stop where nothing else holds it (R191, R192). -/
def Obligations.CommitInOpensTheWorker : Prop :=
  ∀ (g : Gate) (p : Punch) (rest : List Punch) (r : Region) (s : State),
    let ref := p.worker
    let w := s.worker ref
    let new := captureOpenIn p.stamp g.val (s.finding w.group p.stamp)
    let opened (slot : Option Nat) := punchOpen w.badge p.stamp new.start new.late new.offShift p.noMove (p.report = some .free) g.val
      p.position.val slot
    let inside : Worker := { w with openIn := some new, presence := .inside, inFlight := none }
    let left := ((s.setQueue g rest).withJournal { s.journal with reserved := s.journal.reserved - 12 }).afterStop
    s.betweenEvents → Memory.wf s.mem = true → s.queue g = p :: rest → (p.report = some .passed ∨ p.report = some .free) →
    p.direction = .inward → (s.control.runState = .running ∨ s.control.runState = .stopping) → s.noneWaitsForRoom →
    s.journal.region = some r → s.journal.placed r → 12 ≤ s.journal.reserved →
    w.inRange → s.recordApart ref → (∀ x, p.stamp = some x → x.day < 65535 ∧ x.second < 86400) →
    (new.offShift = true ↔ s.finding w.group p.stamp = none) ∧
    (w.openIn = none → ∃ t, exec (.commitIn g) s = .next t ∧
      t.worker ref = inside ∧
      EndsBut ((s.setQueue g rest).withJournal { s.journal.recorded r 4 with reserved := s.journal.reserved - 12 }).afterStop t
        (fun a => wordsAt s.journal.writePos 4 a ∨ wordsAt ref.address 13 a) ∧
      (s.apartFromStatus s.journal.writePos 4 →
        readWords t.mem s.journal.writePos 4 = (opened none).header s.journal.nextSeq :: (opened none).body)) ∧
    ∀ o, w.openIn = some o → w.pendingCount ≤ 32 → (∀ table, s.engine.exceptions = some table → table.count ≤ 32) →
      (∀ table, s.engine.exceptions = some table → table.base + 48 * table.count ≤ r.first ∨ r.last + 4 ≤ table.base) →
      let entryInvalid : Bool := match o.start.bind fun x => s.dayEntry w.group x.1 with
        | none => false
        | some e => !e.valid
      let both (slot : Option Nat) (f : RecFlags) : List JRecord :=
        [punchUnpaired w.badge o.stamp true o.gate 31 slot { f with late := o.late, offShift := o.offShift } entryInvalid, opened slot]
      let enabled : Bool := match s.payRule w.rule with
        | none => false
        | some x => x.enables .missingOut
      let quiet : Bool := match s.payRule w.rule with
        | none => false
        | some x => x.quiet
      let free := s.engine.exceptions.bind (lowestFree s.mem)
      (enabled = false ∨ free = none → ∃ t, exec (.commitIn g) s = .next t ∧
        EndsWritingAll r (both none { exceptionLost := enabled }) ref inside left t) ∧
      ∀ table i, enabled = true → s.engine.exceptions = some table → free = some i → ∃ t, exec (.commitIn g) s = .next t ∧
        EndsTakingAll r (both (some i) { exception := true }) ref inside table i
          { code := .missingOut, index := ref.index, badge := w.badge, inStamp := o.stamp, outStamp := none, regular := 0, overtime := 0,
            night := 0, amount := 0, shiftDay := (match o.start with
              | some x => some x.1
              | none => o.stamp.map Stamp.day) } quiet left t

/-- COMMIT_OUT of a reported OUT, PASSED or free: the worker is OUTSIDE with open-in NONE and no punch in flight, the record of the
outcome is written with the next sequence from the reservation, after a filler where it needs one, the punch leaves its queue, and no other
byte or field moves. With open-in NONE a PUNCH_UNPAIRED of the out stamp is written, MISSING_IN (R114). Else a PUNCH_CLOSE of the pair: with
zero results and nothing credited under an invalid rule, with RULE_INVALID (R61); for a worker with NO_PAY (R91, R108); and with an
undefined stamp, UNSET_TIME; else with the results of the stages (R92–R103), of which a span above its limit is SPAN_LIMIT with CLAMPED, and
totals that do not hold the results are TOTAL_OVERFLOW. A class that the rule enables, with a FREE slot, is taken: nothing is credited, EXCEPTION
and the slot index stand in the record, the lowest FREE slot is PENDING with the pair and its results, the pending count is one up, the last
exception and, unless quiet, PAY_EXCEPTION are set (R113, R116). Otherwise, with EXCEPTION_LOST where no slot was FREE, the results are
credited: totals and pairs go up, held at their maxima with SATURATED where they do not fit, and the daily minutes follow
(R82, R84, R89, R104–R109, R117, R178). The slot field of a record that took none is a free value (log entry 5).
In STOPPING the commit of the last punch ends the stop where nothing else holds it (R191, R192). -/
def Obligations.CommitOutClosesThePair : Prop :=
  ∀ (g : Gate) (p : Punch) (rest : List Punch) (r : Region) (s : State),
    let ref := p.worker
    let w := s.worker ref
    let out (w : Worker) : Worker := { w with openIn := none, presence := .outside, inFlight := none }
    let flags : RecFlags := { passbackSoft := p.passbackSoft, noMove := p.noMove, free := p.report = some .free }
    let left := ((s.setQueue g rest).withJournal { s.journal with reserved := s.journal.reserved - 12 }).afterStop
    s.betweenEvents → Memory.wf s.mem = true → s.queue g = p :: rest → (p.report = some .passed ∨ p.report = some .free) →
    p.direction = .outward → (s.control.runState = .running ∨ s.control.runState = .stopping) → s.noneWaitsForRoom →
    s.journal.region = some r → s.journal.placed r → 12 ≤ s.journal.reserved → w.inRange → w.pendingCount ≤ 32 →
    s.recordApart ref → (∀ table, s.engine.exceptions = some table → table.count ≤ 32) →
    (∀ table, s.engine.exceptions = some table → table.base + 48 * table.count ≤ r.first ∨ r.last + 4 ≤ table.base) →
    let rule := s.payRule w.rule
    let enabled (c : ExcClass) : Bool := match rule with
      | none => false
      | some x => x.enables c
    let free := s.engine.exceptions.bind (lowestFree s.mem)
    let quiet := match rule with
      | none => false
      | some x => x.quiet
    (w.openIn = none →
      let record (slot : Option Nat) (f : RecFlags) := punchUnpaired w.badge p.stamp false g.val p.position.val slot f
      (enabled .missingIn = false ∨ free = none → ∃ t, exec (.commitOut g) s = .next t ∧
        EndsWriting r (record none { flags with exceptionLost := enabled .missingIn }) ref (out w) left t) ∧
      ∀ table i, enabled .missingIn = true → s.engine.exceptions = some table → free = some i →
        ∃ t, exec (.commitOut g) s = .next t ∧
          EndsTaking r (record (some i) { flags with exception := true }) ref (out w) table i
            { code := .missingIn, index := ref.index, badge := w.badge, inStamp := none, outStamp := p.stamp, regular := 0, overtime := 0,
              night := 0, amount := 0, shiftDay := p.stamp.map Stamp.day } quiet left t) ∧
    ∀ o, w.openIn = some o →
      let f : RecFlags := { flags with late := o.late, offShift := o.offShift }
      let lim := s.closeLimits w.group o.start
      let used : State := { left with freeUsed := s.freeUsed + 1 }
      let record (a b c amount slot : Nat) (f : RecFlags) (ruleInvalid : Bool) :=
        punchClose w o.stamp p.stamp a b c amount g.val p.position.val slot f lim.entryInvalid ruleInvalid
      let zero (f : RecFlags) (ruleInvalid : Bool) (t : State) : Prop :=
        EndsWriting r (record 0 0 0 0 (Config.freeWord s.freeUsed).toNat f ruleInvalid) ref (out w) used t
      (rule = none → ∃ t, exec (.commitOut g) s = .next t ∧ zero f true t) ∧
      (rule.isSome = true → w.noPay = true → ∃ t, exec (.commitOut g) s = .next t ∧ zero { f with noPay := true } false t) ∧
      (rule.isSome = true → w.noPay = false → (o.stamp = none ∨ p.stamp = none) →
        (enabled .unsetTime = false ∨ free = none → ∃ t, exec (.commitOut g) s = .next t ∧
          zero { f with unsetTime := true, exceptionLost := enabled .unsetTime } false t) ∧
        ∀ table i, enabled .unsetTime = true → s.engine.exceptions = some table → free = some i →
          ∃ t, exec (.commitOut g) s = .next t ∧
            EndsTaking r (record 0 0 0 0 i { f with unsetTime := true, exception := true } false) ref (out w) table i
              { code := .unsetTime, index := ref.index, badge := w.badge, inStamp := o.stamp, outStamp := p.stamp, regular := 0,
                overtime := 0, night := 0, amount := 0, shiftDay := o.start.map Prod.fst } quiet left t) ∧
      ∀ pay tin tout, rule = some pay → w.noPay = false → o.stamp = some tin → p.stamp = some tout →
        let x := pairStages pay lim w o tin tout
        let lostSpan := x.overLimit && enabled .spanLimit && free.isNone
        let fx : RecFlags := { f with breakTaken := x.breakTaken, zeroSpan := x.zeroSpan, clamped := x.overLimit,
                                      exceptionLost := lostSpan }
        let fill (c : ExcClass) : SlotFill :=
          { code := c, index := ref.index, badge := w.badge, inStamp := o.stamp, outStamp := p.stamp, regular := x.mreg,
            overtime := x.mot, night := x.mn, amount := x.amount, shiftDay := some x.shiftDay }
        let day : Worker := { w with rd := (if w.rdDay = some x.shiftDay then w.rd else 0) + x.mreg, rdDay := some x.shiftDay }
        let fits := w.regular + x.mreg ≤ 65535 ∧ w.overtime + x.mot ≤ 65535 ∧ w.night + x.mn ≤ 65535 ∧
          w.amount + x.amount ≤ 4294967295 ∧ w.pairs + 1 ≤ 65535
        let spanTaken := x.overLimit = true ∧ enabled .spanLimit = true ∧ free ≠ none
        (w.rdDay = some x.shiftDay → w.rd ≤ 960) →
        (∀ table i, spanTaken → s.engine.exceptions = some table → free = some i → ∃ t, exec (.commitOut g) s = .next t ∧
          EndsTaking r (record x.mreg x.mot x.mn x.amount i { fx with exception := true } false) ref (out w) table i
            (fill .spanLimit) quiet left t) ∧
        (¬ spanTaken → fits → ∃ t, exec (.commitOut g) s = .next t ∧
          EndsWriting r (record x.mreg x.mot x.mn x.amount (Config.freeWord s.freeUsed).toNat fx false) ref
            (out { day with regular := w.regular + x.mreg, overtime := w.overtime + x.mot, night := w.night + x.mn,
                            amount := w.amount + x.amount, pairs := w.pairs + 1 }) used t) ∧
        (∀ table i, ¬ spanTaken → ¬ fits → enabled .totalOverflow = true → s.engine.exceptions = some table → free = some i →
          ∃ t, exec (.commitOut g) s = .next t ∧
            EndsTaking r (record x.mreg x.mot x.mn x.amount i { fx with exception := true } false) ref (out w) table i
              (fill .totalOverflow) quiet left t) ∧
        (¬ spanTaken → ¬ fits → (enabled .totalOverflow = false ∨ free = none) → ∃ t, exec (.commitOut g) s = .next t ∧
          EndsWriting r (record x.mreg x.mot x.mn x.amount (Config.freeWord s.freeUsed).toNat
            { fx with saturated := true, exceptionLost := lostSpan || enabled .totalOverflow } false) ref
            (out { day with regular := min 65535 (w.regular + x.mreg), overtime := min 65535 (w.overtime + x.mot),
                            night := min 65535 (w.night + x.mn), amount := min 4294967295 (w.amount + x.amount),
                            pairs := min 65535 (w.pairs + 1), saturated := true }) used t)

/-! ### The closing sweep -/

/-- SWEEP_TEST. Passed over are a worker with a punch in flight or open-in NONE, an instance open-in that is not due (its auto-close delay 0
or not run out since the shift end, or the clock UNSET) and an off-shift open-in stamped less than 16 hours ago. The cursor moves on; past the
last index the sweep ends, and a pending mark starts the next from index 0 unless an install is in CARRY or waits. A due off-shift open-in, 16
hours old or with its stamp undefined, is closed by a PUNCH_UNPAIRED with AUTO, no pay. A due instance open-in is closed by a PUNCH_CLOSE
with AUTO and the shift end as out stamp: with zero results under an invalid rule (RULE_INVALID), for a NO_PAY worker, or with an undefined in
stamp (UNSET_TIME); else with the results of the stages, SPAN_LIMIT and TOTAL_OVERFLOW judged as at an OUT. An enabled class with a FREE
slot is taken: slot, pending count, last exception and PAY_EXCEPTION as of R113, nothing credited; otherwise the results are credited, with
SATURATED where totals do not fit. After both the worker is UNKNOWN with open-in NONE; without room in a damaged journal the sweep pauses at
the worker (R61, R89, R91, R104, R107–R109, R113, R116, R117, R119–R123). The model's choices: an entry of length 0 keeps its delay (log entry
41), an open-in without a shift start is off-shift whatever its flag (42), in-flight codes 8–14 are a punch in flight (40), the slot field of
a record that took no slot is a free value (5). -/
def Obligations.SweepTestsTheWorkerAtItsCursor : Prop :=
  ∀ (table : Table) (s : State),
    let ref : WorkerRef := { base := table.base, index := s.engine.sweepCursor }
    let w := s.worker ref
    s.betweenEvents → s.control.runState = .running → s.engine.sweep = .running → s.engine.workers = some table →
    let offDue (o : OpenIn) : Prop := o.start = none ∧ (o.stamp = none ∨ ∃ x, o.stamp = some x ∧ s.time.clock ≠ .unset ∧
      57600 ≤ ((s.time.absSecond : Int) - x.abs) % 5662224000 ∧ ((s.time.absSecond : Int) - x.abs) % 5662224000 ≤ 2831111999)
    let delay (day : Nat) : Nat := match s.dayEntry w.group day with
      | none => 0
      | some e => if e.valid then e.autoClose else 0
    let past (o : OpenIn) (x : Nat × Nat) : Int :=
      ((s.time.absSecond : Int) - ((x.1 * 1440 + x.2 + o.length) * 60 + 60 * delay x.1)) % 5662224000
    let due (o : OpenIn) : Prop := ∃ x, o.start = some x ∧ 0 < delay x.1 ∧ s.time.clock ≠ .unset ∧ past o x ≤ 2831111999
    (∀ x, s.time.stamp = some x → x.second < 86400) →
    ((w.inFlight ≠ none ∨ w.openIn = none ∨ ∃ o, w.openIn = some o ∧ ¬ offDue o ∧ ¬ due o) → ∃ t, exec .sweepTest s = .next t ∧
      EndsAs (s.withEngine
        (if s.engine.sweepCursor + 1 < table.count then { s.engine with sweepCursor := s.engine.sweepCursor + 1 }
         else if s.engine.sweepPending = true ∧ s.engine.install.inCarry = false ∧ s.engine.install.waiting = false then
          { s.engine with sweepCursor := 0, sweepPending := false }
         else { s.engine with sweep := .idle, sweepCursor := s.engine.sweepCursor + 1 })) t) ∧
    ∀ (o : OpenIn) (r : Region), w.inFlight = none → w.openIn = some o → s.journal.region = some r →
      s.engine.install.inCarry = false →
      let on := s.withEngine { s.engine with sweepCursor := s.engine.sweepCursor + 1 }
      let closed (w : Worker) : Worker := { w with presence := .unknown, openIn := none }
      (s.journal.placed r → 12 ≤ s.journal.freeWords → Memory.wf s.mem = true → w.inRange → s.recordApart ref →
        s.engine.sweepCursor + 1 < table.count →
        (offDue o → ∃ t, exec .sweepTest s = .next t ∧
          EndsWriting r (punchUnpaired w.badge o.stamp true o.gate 31 none { auto := true }) ref (closed w) on t) ∧
        ∀ start : Nat × Nat, due o → o.start = some start → s.slotsApart r w →
          let stop : Stamp := { day := (start.1 + (start.2 + o.length) / 1440) % 65535, second := (start.2 + o.length) % 1440 * 60 }
          s.ClosesByTheRules ref o (some stop) { auto := true, late := o.late, offShift := o.offShift } o.gate 31
            (fun x w => ∃ t, exec .sweepTest s = .next t ∧ EndsWriting r x ref (closed w) { on with freeUsed := s.freeUsed + 1 } t)
            (fun x slots i fill => ∃ t, exec .sweepTest s = .next t ∧
              EndsTaking r x ref (closed w) slots i fill (s.quietFor w) on t)) ∧
      ((offDue o ∨ due o) → s.journal.damaged = true → s.journal.freeWords < 12 → ∃ t, exec .sweepTest s = .next t ∧
        EndsAs (s.withEngine { s.engine with sweep := .paused }) t)

/-! ### Orders: the walk -/

/-- ORDER_POINTER_WRITE in RUNNING: a nonzero value starts an idle walk at its word address; one written in a walk is ignored with
ORDER_REFUSED latched, as is one in any other run state; a zero ends a walk that stands between two blocks, with ORDERS_DONE latched, sets the
end mark of one with an order in hand, which runs on to its result, and is ignored with the walk idle. Of an install in hand a zero ends a
VERIFY, waiting or not, ABORTED with the index it stands at, and the walk with it; a CARRY runs on (R42, R47, R195, R197). An install not yet
begun is noted, to end ABORTED (log entry 14); its free outputs are log entry 5. That a waiting VERIFY so ended leaves its sweep as it stands
and the pending mark set is the model's choice (log entry 50). -/
def Obligations.OrderPointerStartsOrRefuses : Prop :=
  ∀ (w : Word) (s : State), s.betweenEvents →
    (w ≠ 0 → s.control.runState = .running → s.orders.walking = false → ∃ t, exec (.orderPointerWrite w) s = .next t ∧
      EndsAs { s with orders := { walking := true, current := w.toNat - w.toNat % 4, endMark := false, inHand := none } } t) ∧
    (w ≠ 0 → (s.control.runState ≠ .running ∨ s.orders.walking = true) → ∃ t, exec (.orderPointerWrite w) s = .next t ∧
      EndsAs (s.latch Latched.setOrderRefused) t) ∧
    (w = 0 → s.control.runState = .running → s.orders.walking = true → s.orders.inHand = none →
      ∃ t, exec (.orderPointerWrite w) s = .next t ∧
        EndsAs ({ s with orders := OrderUnit.reset }.latch Latched.setOrdersDone) t) ∧
    (∀ h, w = 0 → s.control.runState = .running → s.orders.walking = true → s.orders.inHand = some h →
      let marked : State := { s with orders := { s.orders with endMark := true } }
      (h.order ≠ .installWorkerTable ∨ s.engine.install.inCarry = true → ∃ t, exec (.orderPointerWrite w) s = .next t ∧
        EndsAs marked t) ∧
      (∀ (table : Table) (i : Nat), h.order = .installWorkerTable → s.engine.install = .verify table i →
        ∃ t, exec (.orderPointerWrite w) s = .next t ∧
          EndsAs ((marked.withEngine { s.engine with install := .idle }).turnAway 3 (.aborted i)) t) ∧
      (h.order = .installWorkerTable → s.engine.install = .idle → ∃ t, exec (.orderPointerWrite w) s = .next t ∧
        EndsAs { s with orders := { s.orders with endMark := true, inHand := some { h with aborted := true } } } t)) ∧
    (w = 0 → (s.control.runState ≠ .running ∨ s.orders.walking = false) → ∃ t, exec (.orderPointerWrite w) s = .next t ∧ EndsAs s t)

/-- ORDER_BLOCK: a block whose code names an order with its count, all its words below 100000h, is handed to its owner with its
parameters and its link as read; one whose code names none is answered BAD_CODE, and one with another count BAD_PARAM, by its result
word; a header that does not lie below 100000h ends the walk with ORDERS_DONE and no result (R194, R196, R197). -/
def Obligations.OrderBlockIsHandedToItsOwner : Prop :=
  ∀ (o : Order) (s : State), s.betweenEvents → s.orders.walking = true → s.orders.inHand = none →
    let a := s.orders.current
    let code := field (s.load (a + 4)) 0 8
    let count := field (s.load (a + 4)) 8 8
    (a + 12 ≤ 0x100000 → Order.ofCode code = some o → count = o.paramCount →
      a + 4 * (3 + o.paramCount + o.outputCount) ≤ 0x100000 →
      ∃ t, exec .orderBlock s = .next t ∧
        EndsAs { s with orders := { s.orders with
          inHand := some { order := o, params := readWords s.mem (a + 12) o.paramCount, link := s.load a, aborted := false } } } t) ∧
    (a + 12 ≤ 0x100000 → (code = 0 ∨ 15 < code) → ∃ t, exec .orderBlock s = .next t ∧
      EndsAs (s.finishBlock (s.load a) .badCode) t) ∧
    (a + 12 ≤ 0x100000 → Order.ofCode code = some o → count ≠ o.paramCount → ∃ t, exec .orderBlock s = .next t ∧
      EndsAs (s.finishBlock (s.load a) .badParam) t) ∧
    (0x100000 < a + 12 → s.control.runState = .running → ∃ t, exec .orderBlock s = .next t ∧
      EndsAs ({ s with orders := OrderUnit.reset }.latch Latched.setOrdersDone) t)

/-- An answer: the output words stand after the parameters and the result word in word 2 of the block, no other byte
changes; with the end mark or the END flag the walk is idle and ORDERS_DONE latched, else it stands at the block the link names;
the end of the walk in STOPPING ends the stop where nothing else holds it (R191, R192).
An order turned away answers with output words whose values nothing states (R194, R196, R197; the free values are log entry 5; that bit 1
of a link is ignored is log entry 15). -/
def Obligations.AnswerWritesTheResultAndMovesTheWalk : Prop :=
  ∀ (h : InHand) (outs : List Word) (n : Nat) (res : OrderResult) (s : State),
    Memory.wf s.mem = true → s.orders.inHand = some h →
    let a := s.orders.current
    let u := s.answer outs res
    readWord u.mem (a + 8) = res.word ∧ readWords u.mem (a + 12 + 4 * h.params.length) outs.length = outs ∧
      (∀ x, ¬ wordsAt (a + 8) 1 x → ¬ wordsAt (a + 12 + 4 * h.params.length) outs.length x →
        readByte u.mem x = readByte s.mem x) ∧
      (if s.orders.endMark = true ∨ flagAt h.link 0 = true then
        u = { (({ s with orders := OrderUnit.reset } : State).latch Latched.setOrdersDone).afterStop with mem := u.mem }
       else u = { s with mem := u.mem, orders := { s.orders with inHand := none, current := h.link.toNat - h.link.toNat % 4 } }) ∧
      ∃ free : List Word, free.length = n ∧ s.turnAway n res = ({ s with freeUsed := s.freeUsed + n } : State).answer free res

/-! ### Orders: the owners -/

/-- SET_TIME: values in range write the counts with tick 0, FREE, LM and both marks none and the silence count 0, make a SET notice with
the old absolute minute, undefined in UNSET, and the new one, and are answered DONE; a value out of range is answered BAD_PARAM with
the time base unchanged (R14). That the SET notice, which carries no counts, holds count kind 0 and count 0 is the model's choice (log
entry 73). -/
def Obligations.SetTimeWritesTheCounts : Prop :=
  ∀ (h : InHand) (s : State), s.betweenEvents → s.orders.inHand = some h → h.order = .setTime → s.control.runState = .running →
    let day := h.param 0
    let minute := h.param 1
    let second := h.param 2
    let dow := h.param 3
    (day ≤ 65534 → minute ≤ 1439 → second ≤ 59 → dow ≤ 6 → s.noticeRoom 1 → ∃ t, exec .setTime s = .next t ∧
      EndsAs (((s.withTime { s.time with
        tick := 0, second := second, minute := minute, day := day, dow := dow, clock := .free, lm := none, lastMark := none,
        candidate := none, silence := 0 }).notice (timeNotice .set
          (if s.time.clock = .unset then none else some (s.time.day * 1440 + s.time.minute)) (day * 1440 + minute) 0 0 0)).answer
            [] .done) t) ∧
    (65534 < day ∨ 1439 < minute ∨ 59 < second ∨ 6 < dow → ∃ t, exec .setTime s = .next t ∧ EndsAs (s.answer [] .badParam) t)

/-- INSTALL_WORKER_TABLE with a base at a word address, a count from 1 to 8,192 and records that lie in common memory apart from every
live region enters VERIFY at index 0; a count out of range is TABLE_INVALID with index 65535; a base that is no word address, or records
that do not so lie, are BAD_PARAM. A record passes the check when its badge is in 1–4,294,967,294 and, from index 1 on, above the badge
before it: the group, the rule and the rate hold only values in their ranges. VERIFY_NEXT_RECORD gives a record that passes fresh live
fields and takes the next, and ends the install TABLE_INVALID at one that fails; CARRY_BEGIN, past the last record with no sweep, enters
CARRY with no cursor. The outputs of an install that ends early are free values (R42, R43; log entry 5); that the checks come before an
abort noted ahead of VERIFY is log entry 14. -/
def Obligations.InstallVerifiesThenCarries : Prop :=
  (∀ (m : Memory) (table : Table) (i : Nat), recordPasses m table i = true ↔
    let badge (i : Nat) : Nat := (readWord m (table.base + 64 * i)).toNat
    1 ≤ badge i ∧ badge i ≤ 4294967294 ∧ (0 < i → badge (i - 1) < badge i)) ∧
  ∀ (h : InHand) (s : State), s.betweenEvents → s.orders.inHand = some h → h.order = .installWorkerTable →
    let placed : Prop := h.param 0 + 64 * h.param 1 ≤ 0x100000 ∧
      ∀ r ∈ s.liveRegions, overlaps (h.param 0) (h.param 1 * 16) r.1 r.2 = false
    (s.engine.install = .idle → h.aborted = false → h.param 0 % 4 = 0 → 1 ≤ h.param 1 → h.param 1 ≤ 8192 → placed →
      ∃ t, exec .installWorkerTable s = .next t ∧
        EndsAs (s.withEngine { s.engine with install := .verify { base := h.param 0, count := h.param 1 } 0 }) t) ∧
    (s.engine.install = .idle → h.param 0 % 4 = 0 → (h.param 1 = 0 ∨ 8192 < h.param 1) →
      ∃ t, exec .installWorkerTable s = .next t ∧ EndsAs (s.turnAway 3 (.tableInvalid 65535)) t) ∧
    (s.engine.install = .idle → (h.param 0 % 4 ≠ 0 ∨ 1 ≤ h.param 1 ∧ h.param 1 ≤ 8192 ∧ ¬ placed) →
      ∃ t, exec .installWorkerTable s = .next t ∧ EndsAs (s.turnAway 3 .badParam) t) ∧
    (∀ (table : Table) (i : Nat), s.engine.install = .verify table i → i < table.count → recordPasses s.mem table i = true →
      let ref : WorkerRef := { base := table.base, index := i }
      ∃ t, exec .verifyNextRecord s = .next t ∧
        EndsAs ((s.storeAll (ref.address + 16) (s.worker ref).fresh.liveWords).withEngine
          { s.engine with install := .verify table (i + 1) }) t) ∧
    (∀ (table : Table) (i : Nat), s.engine.install = .verify table i → i < table.count → recordPasses s.mem table i = false →
      ∃ t, exec .verifyNextRecord s = .next t ∧
        EndsAs ((s.withEngine { s.engine with install := .idle }).turnAway 3 (.tableInvalid i)) t) ∧
    (∀ (table : Table) (i : Nat), s.engine.install = .verify table i → table.count ≤ i → s.engine.sweep = .idle →
      ∃ t, exec .carryBegin s = .next t ∧
        EndsAs (s.withEngine { s.engine with install := .carry (Carry.start table) }) t)

/-- The carry. A lookup takes a badge at or below the cursor in the new table, another in the old table if it is there, else in the new
one. MATCHED_STEP, of a badge next in both tables, waits for a punch in flight, else it copies the live fields. OLD_ONLY_STEP, of a badge
next in the old table alone, waits for a punch in flight; else it writes a REMOVAL_CLOSE of an OPEN open-in and then a DEPARTURE_TOTALS of
any total, SATURATED or pending count that is not 0, each in 12 words of room, and pauses, nothing written, where the journal lacks
them all. NEW_ONLY_STEP, of a badge next in the new table alone, passes it. Each moves the cursor to its badge and counts itself. The step
of the last badge of both tables, whichever it is, completes the install: the new table alone, phase IDLE, the three counts as outputs,
DONE, and a pending sweep running from index 0 (R41, R43–R46, R178). That in-flight codes 8–14 count as a punch in flight is the model's
choice (log entry 40). -/
def Obligations.CarryStepsPassTheirBadges : Prop :=
  ∀ (old : Table) (c : Carry) (b : Nat) (s : State), s.betweenEvents → s.engine.workers = some old →
    s.engine.install = .carry c →
    let w := s.worker { base := old.base, index := c.oldNext }
    let target : WorkerRef := { base := c.table.base, index := c.newNext }
    let oldIs (x : Nat) : Prop := c.oldNext < old.count ∧ badgeAt s.mem old.base c.oldNext = x
    let newIs (x : Nat) : Prop := c.newNext < c.table.count ∧ badgeAt s.mem c.table.base c.newNext = x
    let oldOnly : Prop := oldIs b ∧ ∀ y, newIs y → b < y
    let stepped (u : State) (c' : Carry) : State :=
      if old.count ≤ c'.oldNext ∧ c.table.count ≤ c'.newNext then
        let v := (u.withEngine { u.engine with workers := some c.table, install := .idle }).answer
          [BitVec.ofNat 32 c'.matchedSteps, BitVec.ofNat 32 c'.oldOnlySteps, BitVec.ofNat 32 c'.newOnlySteps] .done
        if v.engine.sweepPending = true then
          v.withEngine { v.engine with sweep := .running, sweepCursor := 0, sweepPending := false }
        else v
      else u.withEngine { u.engine with install := .carry c' }
    let covered (x : Nat) : Prop := ∃ y, c.cursor = some y ∧ x ≤ y
    let passed : Carry := { c with oldNext := c.oldNext + 1, cursor := some b, oldOnlySteps := c.oldOnlySteps + 1 }
    let totals : Prop := 0 < w.regular ∨ 0 < w.overtime ∨ 0 < w.night ∨ 0 < w.amount ∨ 0 < w.pairs ∨ w.saturated = true ∨
      0 < w.pendingCount
    let records (xs : List JRecord) : Prop := ∃ first second, xs = first ++ second ∧
      (w.openIn = none ∧ first = [] ∨ ∃ o, w.openIn = some o ∧ first = [removalClose w.badge o.stamp]) ∧
      (totals ∧ second = [departureTotals w] ∨ ¬ totals ∧ second = [])
    (∀ x, (covered x → s.lookup x = c.table.find s.mem x) ∧
      (¬ covered x → ∀ ref, old.find s.mem x = some ref → s.lookup x = some ref) ∧
      (¬ covered x → old.find s.mem x = none → s.lookup x = c.table.find s.mem x)) ∧
    (oldIs b → newIs b → w.inFlight ≠ none → ∃ t, exec .matchedStep s = .next t ∧ EndsAs s t) ∧
    (oldIs b → newIs b → w.inFlight = none → ∃ t, exec .matchedStep s = .next t ∧
      EndsAs (stepped (s.storeAll (target.address + 16) w.liveWords) { c with
        oldNext := c.oldNext + 1, newNext := c.newNext + 1, cursor := some b, matchedSteps := c.matchedSteps + 1 }) t) ∧
    (newIs b → (∀ x, oldIs x → b < x) → ∃ t, exec .newOnlyStep s = .next t ∧
      EndsAs (stepped s { c with newNext := c.newNext + 1, cursor := some b, newOnlySteps := c.newOnlySteps + 1 }) t) ∧
    (oldOnly → c.paused = false → w.inFlight ≠ none → ∃ t, exec .oldOnlyStep s = .next t ∧ EndsAs s t) ∧
    (oldOnly → c.paused = false → w.inFlight = none → records [] → ∃ t, exec .oldOnlyStep s = .next t ∧
      EndsAs (stepped s passed) t) ∧
    ∀ xs, oldOnly → c.paused = false → w.inFlight = none → records xs → xs ≠ [] → s.engine.sweep ≠ .paused →
      (∀ r, s.journal.region = some r → s.journal.placed r → 12 * xs.length ≤ s.journal.freeWords → Memory.wf s.mem = true →
        ∃ t, exec .oldOnlyStep s = .next t ∧
          EndsBut (stepped { s with journal := s.journal.afterAll r xs } passed) t (fun a => Journal.bytesAll r a s.journal xs) ∧
          (s.regionApart r → ¬ (old.count ≤ c.oldNext + 1 ∧ c.table.count ≤ c.newNext) → Journal.showsAll r t.mem s.journal xs)) ∧
      (s.journal.region = none ∨ s.journal.damaged = true ∧ s.journal.freeWords < 12 * xs.length →
        ∃ t, exec .oldOnlyStep s = .next t ∧
          EndsAs (s.withEngine { s.engine with install := .carry { c with paused := true } }) t)

/-- AMEND_WORKER: values in range write the static fields of the record the badge finds and nothing of its live fields, answered DONE;
a value out of range is BAD_PARAM and a badge not found NOT_FOUND, with no record changed (R50).
SET_PRESENCE: a value or an option out of range is BAD_PARAM and a badge not found NOT_FOUND; with a punch in flight the order is BUSY with
IN_FLIGHT, and with a close to make and no room for it BUSY with NO_ROOM, the record standing. Without a close to make the presence alone
is written and the outputs name the presence before, NOT_ASKED or NO_OPEN_IN, and no busy cause. With one the pair of the open-in stamp and
the current stamp is closed by the rules of pay, an exception taken included, a PUNCH_CLOSE with HOST is written, the open-in is NONE, the
presence as carried, and the outputs name the presence before and CLOSED (R51, R52, R61, R89, R91, R104, R107–R109, R113, R117). The outputs that no rule gives a turned-away order are free values (log entry 5); in-flight codes
8–14 count as a punch in flight (log entry 40). -/
def Obligations.HostEditsOfAWorker : Prop :=
  ∀ (h : InHand) (s : State), s.betweenEvents → s.orders.inHand = some h → s.control.runState = .running →
    (h.order = .amendWorker →
      let valid := h.param 2 ≤ 31 ∧ h.param 3 ≤ 15 ∧ h.param 4 ≤ 1048575 ∧ h.param 5 ≤ 255 ∧ h.param 6 ≤ 31
      (¬ valid → ∃ t, exec .amendWorker s = .next t ∧ EndsAs (s.answer [] .badParam) t) ∧
      (valid → s.lookup (h.param 0) = none → ∃ t, exec .amendWorker s = .next t ∧ EndsAs (s.answer [] .notFound) t) ∧
      (∀ ref, valid → s.lookup (h.param 0) = some ref → Memory.wf s.mem = true → (s.worker ref).inRange →
        let w := { s.worker ref with
          number := h.param 1, group := h.param 2, rule := h.param 3, rate := h.param 4, mask := h.param 5,
          suspended := h.param 6 % 2 == 1, exempt := h.param 6 / 2 % 2 == 1, early := h.param 6 / 4 % 2 == 1,
          windowEnforced := h.param 6 / 8 % 2 == 1, noPay := h.param 6 / 16 % 2 == 1 }
        (s.setWorker ref w).worker ref = w ∧
          ∃ t, exec .amendWorker s = .next t ∧ EndsAs ((s.setWorker ref w).answer [] .done) t)) ∧
    (h.order = .setPresence →
      let valid := h.param 1 ≤ 2 ∧ h.param 2 ≤ 1
      let one : State := { s with freeUsed := s.freeUsed + 1 }
      let unmet (res : OrderResult) : State :=
        ({ s with freeUsed := s.freeUsed + 2 } : State).answer [Config.freeWord s.freeUsed, Config.freeWord (s.freeUsed + 1), 0] res
      (¬ valid → ∃ t, exec .setPresence s = .next t ∧ EndsAs (unmet .badParam) t) ∧
      (valid → s.lookup (h.param 0) = none → ∃ t, exec .setPresence s = .next t ∧ EndsAs (unmet .notFound) t) ∧
      ∀ ref, valid → s.lookup (h.param 0) = some ref →
        let w := s.worker ref
        let before := BitVec.ofNat 32 w.presence.code
        let presence := Presence.ofCode (h.param 1)
        let changed := s.setWorker ref { w with presence := presence }
        (w.inFlight = none → h.param 2 = 0 → ∃ t, exec .setPresence s = .next t ∧ EndsAs (changed.answer [before, 0, 0] .done) t) ∧
        (w.inFlight = none → h.param 2 = 1 → w.openIn = none → ∃ t, exec .setPresence s = .next t ∧
          EndsAs (changed.answer [before, 1, 0] .done) t) ∧
        (w.inFlight ≠ none → h.param 2 = 0 → ∃ t, exec .setPresence s = .next t ∧ EndsAs (s.answer [before, 0, 1] .busy) t) ∧
        (w.inFlight ≠ none → h.param 2 = 1 → ∃ t, exec .setPresence s = .next t ∧
          EndsAs (one.answer [before, Config.freeWord s.freeUsed, 1] .busy) t) ∧
        ∀ o, w.inFlight = none → h.param 2 = 1 → w.openIn = some o →
          (s.journal.region = none ∨ s.journal.damaged = true ∧ s.journal.freeWords < 12 → ∃ t, exec .setPresence s = .next t ∧
            EndsAs (one.answer [before, Config.freeWord s.freeUsed, 2] .busy) t) ∧
          ∀ r : Region, s.journal.region = some r → s.journal.placed r →
            12 ≤ s.journal.freeWords → s.noneWaitsForRoom → Memory.wf s.mem = true → w.inRange → s.recordApart ref → s.slotsApart r w →
            h.params.length = 3 → apart s.orders.current (s.orders.current + 36) ref.address (ref.address + 64) →
            apart s.orders.current (s.orders.current + 36) r.first (r.last + 4) →
            (∀ slots, s.engine.exceptions = some slots →
              apart s.orders.current (s.orders.current + 36) slots.base (slots.base + 48 * slots.count)) →
            let closed (w : Worker) : Worker := { w with presence := presence, openIn := none }
            s.ClosesByTheRules ref o s.time.stamp { host := true, late := o.late, offShift := o.offShift } o.gate 31
              (fun x w => ∃ t, exec .setPresence s = .next t ∧ t.worker ref = closed w ∧
                EndsBut (({ one with journal := s.journal.after r x } : State).answer [before, 2, 0] .done) t
                  (fun a => s.journal.bytes r x a ∨ wordsAt ref.address 13 a) ∧
                (s.regionApart r → s.journal.shows r t.mem x))
              (fun x slots i fill => ∃ t, exec .setPresence s = .next t ∧
                t.worker ref = { closed w with pendingCount := w.pendingCount + 1 } ∧
                EndsBut (({ s with
                  journal := s.journal.after r x,
                  engine := { s.engine with lastException := { code := some fill.code, slot := i, badge := fill.badge } },
                  control := { s.control with latched := { s.control.latched with
                    payException := s.control.latched.payException || !s.quietFor w } } } : State).answer [before, 2, 0] .done) t
                  (fun a => s.journal.bytes r x a ∨ wordsAt ref.address 13 a ∨ wordsAt (slots.base + 48 * i) 12 a) ∧
                (s.regionApart r → s.journal.shows r t.mem x ∧ readWords t.mem (slots.base + 48 * i) 12 = 1 :: fill.words)))

/-- TAKE_TOTALS of a range of the live table, with a destination apart from every live region, begins with no worker taken. A count of 0, a
range that passes the table, and a destination that is no word address, whose entries do not lie below 100000h or share a word with a live
region are BAD_PARAM: no total moves, nothing is written but the result, whose output is a free value (log entry 5). TAKE_TOTALS_WORKER
writes the entry of the next worker and zeroes its totals, and after the last answers the count of UNSETTLED entries with DONE (R125, R126). -/
def Obligations.TakeTotalsWalksItsRange : Prop :=
  ∀ (table : Table) (s : State), s.betweenEvents → s.engine.workers = some table →
    (∀ h, s.orders.inHand = some h → h.order = .takeTotals → s.engine.takeTotals = none → 1 ≤ h.param 1 →
      h.param 0 + h.param 1 ≤ table.count → h.param 2 % 4 = 0 → h.param 2 + 32 * h.param 1 ≤ 0x100000 →
      (∀ r ∈ s.liveRegions, overlaps (h.param 2) (h.param 1 * 8) r.1 r.2 = false) →
      ∃ t, exec .takeTotals s = .next t ∧
        EndsAs (s.withEngine { s.engine with
          takeTotals := some { first := h.param 0, count := h.param 1, dest := h.param 2, taken := 0, unsettled := 0 } }) t) ∧
    (∀ h, s.orders.inHand = some h → h.order = .takeTotals → s.engine.takeTotals = none →
      (h.param 1 = 0 ∨ table.count < h.param 0 + h.param 1 ∨ h.param 2 % 4 ≠ 0 ∨ 0x100000 < h.param 2 + 32 * h.param 1 ∨
        ∃ r ∈ s.liveRegions, overlaps (h.param 2) (h.param 1 * 8) r.1 r.2 = true) →
      ∃ t, exec .takeTotals s = .next t ∧ EndsAs (s.turnAway 1 .badParam) t) ∧
    (∀ x : TakeTotals, s.engine.takeTotals = some x →
      let ref : WorkerRef := { base := table.base, index := x.first + x.taken }
      let w := s.worker ref
      let unsettled := x.unsettled + if 0 < w.pendingCount then 1 else 0
      let taken := (s.storeAll (x.dest + 32 * x.taken) w.totalsEntry).setWorker ref
        { w with regular := 0, overtime := 0, night := 0, amount := 0, pairs := 0, saturated := false }
      (x.taken + 1 < x.count → ∃ t, exec .takeTotalsWorker s = .next t ∧
        EndsAs (taken.withEngine { s.engine with takeTotals := some { x with taken := x.taken + 1, unsettled := unsettled } }) t) ∧
      (x.count ≤ x.taken + 1 → ∃ t, exec .takeTotalsWorker s = .next t ∧
        EndsAs ((taken.withEngine { s.engine with takeTotals := none }).answer [BitVec.ofNat 32 unsettled] .done) t))

/-- SETTLE_EXCEPTION of a PENDING slot: CREDIT adds the four values and one pair to the worker its badge finds, each total held at its
maximum with SATURATED and the indicator set when a sum passes it, Rd and its day untouched; DISCARD credits nothing; both free the slot and
take one from the pending count, held at 0. A DISCARD whose badge is not found frees the slot alone. BAD_PARAM are an index not below the
count, a choice that is neither, a CREDIT value beyond its total, and a FREE slot; a CREDIT whose badge is not found is NOT_FOUND, the slot
PENDING as before; the outputs are the badge the slot names and 0, and nothing else moves (R112, R118). That an index not below the count
and a FREE slot name no badge, so that the outputs are 0 and 0, is the model's reading (log entry 26). -/
def Obligations.SettleExceptionFreesTheSlot : Prop :=
  ∀ (h : InHand) (table : Table) (s : State), s.betweenEvents → s.orders.inHand = some h → h.order = .settleException →
    s.control.runState = .running → s.engine.exceptions = some table →
    (table.count ≤ h.param 0 → ∃ t, exec .settleException s = .next t ∧ EndsAs (s.answer [0, 0] .badParam) t) ∧
    (h.param 0 < table.count →
      let slot := slotAddress table (h.param 0)
      let badge := slotBadge s.mem table (h.param 0)
      let outs (sat : Bool) := s.storeAll (s.orders.current + 12 + 4 * h.params.length) [BitVec.ofNat 32 badge, BitVec.ofNat 32 (bit sat)]
      let inRange := h.param 2 ≤ 65535 ∧ h.param 3 ≤ 65535 ∧ h.param 4 ≤ 65535
      (slotState s.mem table (h.param 0) = 0 → ∃ t, exec .settleException s = .next t ∧ EndsAs (s.answer [0, 0] .badParam) t) ∧
      (slotState s.mem table (h.param 0) = 1 → (h.param 1 ≠ 1 ∧ h.param 1 ≠ 2 ∨ h.param 1 = 1 ∧ ¬ inRange) →
        ∃ t, exec .settleException s = .next t ∧ EndsAs (s.answer [BitVec.ofNat 32 badge, 0] .badParam) t) ∧
      (slotState s.mem table (h.param 0) = 1 → s.lookup badge = none →
        (h.param 1 = 1 → inRange → ∃ t, exec .settleException s = .next t ∧
          EndsAs (s.answer [BitVec.ofNat 32 badge, 0] .notFound) t) ∧
        (h.param 1 = 2 → ∃ t, exec .settleException s = .next t ∧ EndsAs (((outs false).store slot 0).finishBlock h.link .done) t)) ∧
      (∀ ref, slotState s.mem table (h.param 0) = 1 → s.lookup badge = some ref →
        let w := s.worker ref
        (h.param 1 = 1 → inRange →
          let sat := decide (65535 < w.regular + h.param 2 ∨ 65535 < w.overtime + h.param 3 ∨ 65535 < w.night + h.param 4 ∨
            4294967295 < w.amount + h.param 5 ∨ 65535 < w.pairs + 1)
          ∃ t, exec .settleException s = .next t ∧
            EndsAs ((((outs sat).store slot 0).setWorker ref
              { w with regular := min 65535 (w.regular + h.param 2), overtime := min 65535 (w.overtime + h.param 3),
                       night := min 65535 (w.night + h.param 4), amount := min 4294967295 (w.amount + h.param 5),
                       pairs := min 65535 (w.pairs + 1), saturated := w.saturated || sat,
                       pendingCount := w.pendingCount - 1 }).finishBlock h.link .done) t) ∧
        (h.param 1 = 2 → ∃ t, exec .settleException s = .next t ∧
          EndsAs ((((outs false).store slot 0).setWorker ref
            { w with pendingCount := w.pendingCount - 1 }).finishBlock h.link .done) t)))

/-- INSTALL_SHIFT_TABLE and INSTALL_BELL_TABLE. A table not at a word address, or whose words do not lie below 100000h apart from
every live region, is BAD_PARAM; a bell table of more than 128 entries is TABLE_INVALID with index 65535, and a table that fails
its check TABLE_INVALID with the index of the first entry that fails. A shift table's entries are its 224 days, each field in its range,
and then its 16 pay rules, each field one of its values; a bell table's pass with every field one of its values and a minute not below
that of the entry before. A bell table of no entries passes every check but that of its word address (log entry 30). A shift table that
passes replaces the old one at once; a bell table becomes the pending one with the current one unchanged (R56–R58, R159, R160). -/
def Obligations.TableInstallsTakeTheCheckedTable : Prop :=
  (∀ (m : Memory) (base i : Nat),
    let day (i : Nat) : Prop := let e := DayEntry.read m base i
      e.start ≤ 1439 ∧ e.length ≤ 960 ∧ e.early ≤ 240 ∧ e.late ≤ 240 ∧ e.graceIn ≤ 15 ∧ e.graceOut ≤ 15 ∧ e.autoClose ≤ 480
    let rule (i : Nat) : Prop := let r := PayRule.read m base i
      (r.q = 1 ∨ r.q = 5 ∨ r.q = 6 ∨ r.q = 10 ∨ r.q = 15) ∧ r.mode ≤ 2 ∧ 8 ≤ r.factor ∧ r.factor ≤ 32 ∧ r.breakAt ≤ 960 ∧
        r.breakLen ≤ 120 ∧ (0 < r.breakAt → r.breakLen ≤ r.breakAt) ∧ r.cap ≤ 960 ∧ r.nightStart ≤ 1439 ∧ r.nightEnd ≤ 1439 ∧
        r.premium ≤ 1048575 ∧ r.highBits = 0
    let entry (i : Nat) : Prop := i < 224 ∧ day i ∨ 224 ≤ i ∧ rule (i - 224)
    (shiftTableFault m base = some i ↔ i < 240 ∧ ¬ entry i ∧ ∀ k, k < i → entry k) ∧
      (shiftTableFault m base = none ↔ ∀ k, k < 240 → entry k)) ∧
  (∀ (m : Memory) (base count i : Nat),
    let entry (i : Nat) : Prop := let e := BellEntry.read m base i
      e.minute ≤ 1439 ∧ e.dayMask ≤ 127 ∧ e.lineMask ≤ 255 ∧ e.pulses ≤ 15 ∧ 1 ≤ e.onTime ∧ e.onTime ≤ 255 ∧ 1 ≤ e.gap ∧
        e.gap ≤ 255 ∧ e.startDelay ≤ 59 ∧ e.freeMask ≤ 255 ∧ e.freeWindow ≤ 60 ∧
        (0 < i → (BellEntry.read m base (i - 1)).minute ≤ e.minute)
    (bellTableFault m base count = some i ↔ i < count ∧ ¬ entry i ∧ ∀ k, k < i → entry k) ∧
      (bellTableFault m base count = none ↔ ∀ k, k < count → entry k)) ∧
  ∀ (h : InHand) (s : State), s.betweenEvents → s.orders.inHand = some h → s.control.runState = .running →
    let apart (n : Nat) : Prop := h.param 0 % 4 = 0 ∧ (n = 0 ∨ h.param 0 + 4 * n ≤ 0x100000) ∧
      ∀ r ∈ s.liveRegions, overlaps (h.param 0) n r.1 r.2 = false
    (h.order = .installShiftTable →
      (¬ apart 512 → ∃ t, exec .installShiftTable s = .next t ∧ EndsAs (s.answer [] .badParam) t) ∧
      (apart 512 → shiftTableFault s.mem (h.param 0) = none → ∃ t, exec .installShiftTable s = .next t ∧
        EndsAs ((s.withEngine { s.engine with shift := some (h.param 0) }).answer [] .done) t) ∧
      ∀ i, apart 512 → shiftTableFault s.mem (h.param 0) = some i → ∃ t, exec .installShiftTable s = .next t ∧
        EndsAs (s.answer [] (.tableInvalid i)) t) ∧
    (h.order = .installBellTable →
      let apart := apart (h.param 1 * 4)
      (¬ apart → ∃ t, exec .installBellTable s = .next t ∧ EndsAs (s.answer [] .badParam) t) ∧
      (apart → 128 < h.param 1 → ∃ t, exec .installBellTable s = .next t ∧ EndsAs (s.answer [] (.tableInvalid 65535)) t) ∧
      (apart → h.param 1 ≤ 128 → bellTableFault s.mem (h.param 0) (h.param 1) = none → ∃ t, exec .installBellTable s = .next t ∧
        EndsAs ((s.withBells { s.bells with pendingTable := some { base := h.param 0, count := h.param 1 } }).answer [] .done) t) ∧
      ∀ i, apart → h.param 1 ≤ 128 → bellTableFault s.mem (h.param 0) (h.param 1) = some i →
        ∃ t, exec .installBellTable s = .next t ∧ EndsAs (s.answer [] (.tableInvalid i)) t)

/-- SET_GATE. A gate above 7, a reader whose link or address is above 3, the same position twice, or a position that another gate names is
BAD_PARAM; a channel out of IDLE and OUT_OF_SERVICE, or with free pending set, is BUSY; neither clamps a value, so the output is 0. Else the
five words of the clamped entry and the line's word are written to the gate table, which reads them back, and no other; the channel holds the
clamped parameters and its equipped field, the other channels standing; the line holds the clamped minimum on; the answer is DONE with the
count of the values clamped. Where every entry names positions in range and each once, the position map is formed afresh: a position newly
named is PROBING with its probe due at once, one that stays named takes its gate and role, one no longer named is ABSENT, the error counts
kept (R17, R128, R149, R161). A channel whose entry names no reader is IDLE with its holds, conditions, timers and supervision cleared; one set
to TIMED has its contact held CLOSED, with its conditions and held-open timer cleared; one newly equipped or set to CONTACT begins supervision
and is else as before (R128, R129). That a position newly named has a failure run of 0 (log entry 61), what counts as one value clamped (log entry 20), and that a channel
supervised in CONTACT and set to CONTACT again does not begin supervision afresh (log entry 55), is the model's reading. -/
def Obligations.SetGateTakesTheClampedEntry : Prop :=
  ∀ (h : InHand) (base : Nat) (s : State),
    let e := h.gateEntry
    let c := e.clamped
    let line := clamp 1 20 (h.param 6)
    let names (x : GateEntry) (p : Nat) : Prop := x.entry.position = some p ∨ x.exit.position = some p
    let wrong (n : Nat) : Prop := 7 < n ∨ e.entry.outOfRange = true ∨ e.exit.outOfRange = true ∨
      (∃ p, e.entry.position = some p ∧ e.exit.position = some p) ∨
      ∃ k p, k < 8 ∧ k ≠ n ∧ names e p ∧ names (GateEntry.read s.mem base k) p
    s.betweenEvents → s.orders.inHand = some h → h.order = .setGate → s.control.runState = .running →
    s.control.gateTable = some base →
    (wrong (h.param 0) → ∃ t, exec .setGate s = .next t ∧ EndsAs (s.answer [0] .badParam) t) ∧
    ∀ n : Gate, h.param 0 = n.val → ¬ wrong n.val →
    let d := s.door n
    let busy := d.freePending = true ∨ d.state ≠ .idle ∧ d.state ≠ .outOfService
    (busy → ∃ t, exec .setGate s = .next t ∧ EndsAs (s.answer [0] .busy) t) ∧
    (¬ busy → s.queue n = [] →
      let changed (lo hi v : Nat) : Nat := if lo ≤ v ∧ v ≤ hi then 0 else 1
      let count := changed 0 120 e.repeatWindow + changed 1 15 e.deglitch + changed 10 500 e.hitMax + changed 0 1 e.policy +
        changed 0 1 e.mode + changed 10 100 e.holdDuty + changed 1 60 e.openTime + changed 5 600 e.heldLimit + changed 1 20 (h.param 6)
      let stored := (s.storeAll (base + 20 * n.val) c.words).store (base + 160 + 4 * n.val) (BitVec.ofNat 32 line)
      let after (g : Gate) : GateEntry := if g = n then c else GateEntry.read s.mem base g.val
      let place (p : Fin 16) (x : Gate × Role) : Prop :=
        (match x.2 with
          | .entry => (after x.1).entry
          | .exit => (after x.1).exit).position = some p.val
      ∃ t, exec .setGate s = .next t ∧
        EndsAs ((({ stored with doors := t.doors, readers := t.readers } : State).setLine n { s.line n with minOn := line }).answer
          [BitVec.ofNat 32 count] .done) t ∧
        (∀ g, g ≠ n → t.door g = s.door g) ∧
        t.door n = d.taken e ∧
        ((∀ g, (after g).entry.outOfRange = false ∧ (after g).exit.outOfRange = false) →
          (∀ p x y, place p x → place p y → x = y) → Memory.wf s.mem = true → ∀ p,
          let r := s.reader p
          (∀ x, place p x → t.reader p = if r.placed = none then
              { r with state := .probing, placed := some x, failRun := 0, probeDue := s.time.absTick, lastReport := none, indCounter := 0,
                       outstanding := none, tamper := false, sensorFault := false }
            else { r with placed := some x }) ∧
          ((∀ x, ¬ place p x) → t.reader p = if r.placed = none then r
            else { r with state := .absent, placed := none, outstanding := none, tamper := false, sensorFault := false })) ∧
        (Memory.wf s.mem = true → s.apartFromStatus base 48 → apart base (base + 192) s.orders.current (s.orders.current + 44) →
          h.params.length = 7 → readWords t.mem (base + 20 * n.val) 5 = c.words ∧
            readWord t.mem (base + 160 + 4 * n.val) = BitVec.ofNat 32 line))

/-- REARM_DOOR: a gate above 7 is BAD_PARAM. With the overcurrent hold clear nothing changes; with it set the hold and the latched
OVERCURRENT are cleared, and with no open-load hold a channel leaves OUT_OF_SERVICE: to CLOSING with its held-open timer running if its
contact stands OPEN, else to IDLE, where it tests R130; with the open-load hold set it stays. The answer is DONE (R141). -/
def Obligations.RearmDoorClearsTheOvercurrentHold : Prop :=
  ∀ (h : InHand) (s : State), s.betweenEvents → s.orders.inHand = some h → h.order = .rearmDoor →
    s.control.runState = .running →
    (7 < h.param 0 → ∃ t, exec .rearmDoor s = .next t ∧ EndsAs (s.answer [] .badParam) t) ∧
    (∀ n : Gate, h.param 0 = n.val →
      let d := s.door n
      let d' := { d with overcurrentHold := false, flags := { d.flags with overcurrent := false } }
      (d.overcurrentHold = false → ∃ t, exec .rearmDoor s = .next t ∧ EndsAs (s.answer [] .done) t) ∧
      (d.overcurrentHold = true → d.openLoadHold = true → ∃ t, exec .rearmDoor s = .next t ∧
        EndsAs ((s.setDoor n d').answer [] .done) t) ∧
      (d.overcurrentHold = true → d.openLoadHold = false → d.contact = .opened → ∃ t, exec .rearmDoor s = .next t ∧
        EndsAs ((s.setDoor n { d' with
          state := .closing, served := none, openTimer := none,
          heldTimer := if d.heldTimer = none then some s.time.osc else d.heldTimer }).answer [] .done) t) ∧
      (d.overcurrentHold = true → d.openLoadHold = false → d.contact = .closed → ∃ t, exec .rearmDoor s = .next t ∧
        EndsAs (((s.setDoor n { d' with state := .idle, served := none, openTimer := none }).beginCycle n).answer [] .done) t))

/-- A free request that is not refused. In IDLE its end minute is set and the free cycle begun: the hit with the slot free, else CLAIM with
the request in the list. In a punch cycle's CLAIM or HIT, in HOLD and in CLOSING the end minute, or the later one held, is set with free
pending; in a free cycle's CLAIM or HIT and in FREE the later end minute is kept; the later is the one further ahead of the current minute.
FREE_PASSAGE: a mask above 255 or a window above 1440 is BAD_PARAM and a window in UNSET BUSY, with nothing sent and output 0; gates that
all refuse are answered with their mask; one that does not refuse takes the request. Window 0 drops the pending send and the window: free
pending is cleared; a free cycle's claim is withdrawn, its hit ends with the measures written and the slot passed to the head of the list or
left free, both in IDLE; FREE is left for CLOSING with the held-open timer running if the contact is OPEN, else IDLE; any other state
stands. PENDING_FREE_SEND_DUE, the send time reached: the pending send is gone and taken in the same way, or refused with a FREE_REFUSED
notice (R130, R132, R142, R145, R154–R156, R164, R170). A FREE_PASSAGE in hand at the entry to STOPPING moves no gate and is answered with
its whole mask, as every gate refuses there: the model's reading (R150, R157; log entry 60). -/
def Obligations.FreeRequestsAreTakenOrRefused : Prop :=
  ∀ s : State, s.betweenEvents →
    let place (m : Nat) : Int := ((m : Int) - s.time.absMinute + 47185199) % 94370400
    let later (held : Option Nat) (e : Nat) : Nat := match held with
      | none => e
      | some x => if place x < place e then e else x
    let punch (d : Door) : Prop := (d.state = .claim ∨ d.state = .hit) ∧ d.cycle = .punch
    let takes (u : State) (g : Gate) (e : Nat) (v : State) : Prop :=
      let d := s.door g
      let free : Door := { d with cycle := .free, served := none, freeEnd := some e, freePending := false }
      (punch d ∨ d.state = .hold ∨ d.state = .closing) ∧
        v = u.setDoor g { d with freeEnd := some (later d.freeEnd e), freePending := true } ∨
      ((d.state = .claim ∨ d.state = .hit) ∧ d.cycle = .free ∨ d.state = .free) ∧
        v = u.setDoor g { d with freeEnd := some (later d.freeEnd e) } ∨
      d.state = .idle ∧ s.control.runState ≠ .faulted ∧ s.arbiter = { holder := none, requests := [] } ∧
        v = (u.withArbiter { holder := some (.door g), requests := [] }).setDoor g { free with
          state := .hit, overRun := 0, movement := { Movement.cleared with openAtStart := d.contact == .opened } } ∨
      ∃ c, d.state = .idle ∧ s.arbiter.holder = some c ∧ c ≠ .door g ∧ Claimant.door g ∉ s.arbiter.requests ∧
        v = (u.withArbiter { s.arbiter with requests := s.arbiter.requests ++ [Claimant.door g] }).setDoor g { free with state := .claim }
    (∀ h, s.orders.inHand = some h → h.order = .freePassage → s.control.runState = .running →
      let mask := h.param 0
      let window := h.param 1
      (255 < mask ∨ 1440 < window → ∃ t, exec .freePassage s = .next t ∧ EndsAs (s.answer [0] .badParam) t) ∧
      (mask ≤ 255 → 1 ≤ window → window ≤ 1440 → s.time.clock = .unset → ∃ t, exec .freePassage s = .next t ∧
        EndsAs (s.answer [0] .busy) t) ∧
      (mask ≤ 255 → 1 ≤ window → window ≤ 1440 → s.time.clock ≠ .unset → (∀ g, (s.freeRefusal g).isSome = true) →
        ∃ t, exec .freePassage s = .next t ∧ EndsAs (s.answer [BitVec.ofNat 32 mask] .done) t) ∧
      (∀ (g : Gate) (v : State), mask = 2 ^ g.val → 1 ≤ window → window ≤ 1440 → s.time.clock ≠ .unset → s.freeRefusal g = none →
        takes s g ((s.time.absMinute + window) % 94370400) v → ∃ t, exec .freePassage s = .next t ∧ EndsAs (v.answer [0] .done) t) ∧
      ∀ g : Gate, mask = 2 ^ g.val → window = 0 →
        let d := s.door g
        let u := s.setFreeSend g none
        let ended (v : State) : Prop := ∃ t, exec .freePassage s = .next t ∧ EndsAs (v.answer [0] .done) t
        let idle (d : Door) : Door := { d with state := .idle, freeEnd := none, served := none, openTimer := none }
        (d.freePending = true → ended (u.setDoor g { d with freePending := false, freeEnd := none })) ∧
        (d.freePending = false → d.state = .claim → d.cycle = .free → Claimant.door g ∈ s.arbiter.requests → s.queue g = [] →
          ended ((u.withArbiter { s.arbiter with requests := s.arbiter.requests.erase (.door g) }).setDoor g (idle d))) ∧
        (∀ released, d.freePending = false → d.state = .hit → d.cycle = .free → s.arbiter.holder = some (.door g) →
          s.queue g = [] → u.slotPasses released → ended (released.setDoor g (idle d.measured))) ∧
        (d.freePending = false → d.state = .free → d.contact = .closed → s.queue g = [] → ended (u.setDoor g (idle d))) ∧
        (d.freePending = false → d.state = .free → d.contact = .opened → ended (u.setDoor g { d with
          state := .closing, freeEnd := none, served := none, openTimer := none, heldTimer := d.heldFrom s.time.osc })) ∧
        (d.freePending = false → (d.state = .idle ∨ punch d ∨ d.state = .hold ∨ d.state = .closing ∨ d.state = .outOfService) →
          ended u)) ∧
    (∀ h, s.orders.inHand = some h → h.order = .freePassage → s.control.runState = .stopping → h.param 0 ≤ 255 → 1 ≤ h.param 1 →
      h.param 1 ≤ 1440 → s.time.clock ≠ .unset →
      ∃ t, exec .freePassage s = .next t ∧ EndsAs (s.answer [BitVec.ofNat 32 (h.param 0)] .done) t) ∧
    (∀ (g : Gate) (f : FreeSend), s.freeSend g = some f → tickReached s.time.absTick f.sendTime = true →
      (∀ v, s.freeRefusal g = none → takes (s.setFreeSend g none) g f.endMinute v → ∃ t, exec (.pendingFreeSendDue g) s = .next t ∧
        EndsAs v t) ∧
      (∀ why, s.freeRefusal g = some why → s.noticeRoom 1 → ∃ t, exec (.pendingFreeSendDue g) s = .next t ∧
        EndsAs ((s.setFreeSend g none).bellNoticeAt .freeRefused (some g.val) (some f.entry) why.code) t))

/-- RING in NORMAL supply for one line with room: the pattern, with 0 pulses taken as 1, entry none and due at once, joins the tail of the
line's queue, an IDLE line taking it into DELAY, and the output is 0; a line of 4 instances appends nothing and makes a QUEUE_FULL notice,
and while the supply is LOW none appends and the line makes a SUPPLY notice, both with entry none, and the output names the line; a value
out of range is BAD_PARAM with no line changed (R165, R169), its output a free value (log entry 5). SILENCE_BELLS: above 1440 is BAD_PARAM
and a value in UNSET BUSY, unchanged; 0 makes the silence end none; with every line IDLE, in DELAY, ON, GAP or SETTLE a value sets the
silence end that many minutes on and cuts each line: one in DELAY is IDLE and empty, one in ON has cut set, one in GAP is in SETTLE for 1 s,
and every one keeps its head instance alone; with one line in CLAIM, the others so, that one is IDLE and empty, out of the list, or with the
slot passed to the head of the list or left free (R155, R156, R168). Both act only in RUNNING (R173): in STOPPING neither changes a line or
the silence end; that RING then answers its whole mask as not appended, and both DONE, is the model's reading (log entry 47). -/
def Obligations.BellOrdersActOnTheLines : Prop :=
  ∀ (h : InHand) (s : State), s.betweenEvents → s.orders.inHand = some h →
    let pulses := h.param 1
    let onTime := h.param 2
    let gap := h.param 3
    let rings := pulses ≤ 15 ∧ 1 ≤ onTime ∧ onTime ≤ 255 ∧ 1 ≤ gap ∧ gap ≤ 255
    (s.control.runState = .stopping →
      (h.order = .ring → h.param 0 ≤ 255 → rings → ∃ t, exec .ring s = .next t ∧
        EndsAs (s.answer [BitVec.ofNat 32 (h.param 0)] .done) t) ∧
      (h.order = .silenceBells → h.param 0 ≤ 1440 → (h.param 0 = 0 ∨ s.time.clock ≠ .unset) →
        ∃ t, exec .silenceBells s = .next t ∧ EndsAs (s.answer [] .done) t)) ∧
    (s.control.runState = .running →
    (∀ n : LineNo, h.order = .ring →
      let p : Pattern := { entry := none, pulses := if pulses = 0 then 1 else pulses, onTime := onTime, gap := gap, due := none }
      let l := s.line n
      (255 < h.param 0 ∨ ¬ rings → ∃ t, exec .ring s = .next t ∧ EndsAs (s.turnAway 1 .badParam) t) ∧
      (h.param 0 = 2 ^ n.val → rings → s.supply.state = .normal → l.queue.length < 4 → ∃ t, exec .ring s = .next t ∧
          EndsAs ((s.setLine n
            (if l.state = .idle then
              { l with queue := l.queue ++ [p], state := .delay, pulsesDone := 0, granted := false, cut := false }
             else { l with queue := l.queue ++ [p] })).answer [0] .done) t) ∧
      (h.param 0 = 2 ^ n.val → rings → s.supply.state = .normal → 4 ≤ l.queue.length → s.noticeRoom 1 → ∃ t, exec .ring s = .next t ∧
        EndsAs ((s.bellNoticeAt .queueFull (some n.val) none 0).answer [BitVec.ofNat 32 (2 ^ n.val)] .done) t) ∧
      (h.param 0 = 2 ^ n.val → rings → s.supply.state = .low → s.noticeRoom 1 → ∃ t, exec .ring s = .next t ∧
        EndsAs ((s.bellNoticeAt .supply none none (2 ^ n.val)).answer [BitVec.ofNat 32 (2 ^ n.val)] .done) t)) ∧
    (h.order = .silenceBells →
      let cut (l : Line) : Line := match l.state with
        | .delay => { l with state := .idle, queue := [], pulsesDone := 0, cut := false }
        | .on => { l with queue := l.queue.take 1, cut := true }
        | .gap => { l with queue := l.queue.take 1, state := .settle, phaseEnds := s.time.osc + 20 }
        | .claim => { l with state := .idle, queue := [], pulsesDone := 0, granted := false, cut := false }
        | .idle | .settle => { l with queue := l.queue.take 1 }
      let silenced : State := s.withBells { s.bells with
        silenceEnd := some ((s.time.absMinute + h.param 0) % minuteCycle), lines := s.bells.lines.map cut }
      (1440 < h.param 0 → ∃ t, exec .silenceBells s = .next t ∧ EndsAs (s.answer [] .badParam) t) ∧
      (h.param 0 = 0 → ∃ t, exec .silenceBells s = .next t ∧
        EndsAs ((s.withBells { s.bells with silenceEnd := none }).answer [] .done) t) ∧
      (1 ≤ h.param 0 → h.param 0 ≤ 1440 → s.time.clock = .unset → ∃ t, exec .silenceBells s = .next t ∧
        EndsAs (s.answer [] .busy) t) ∧
      (1 ≤ h.param 0 → h.param 0 ≤ 1440 → s.time.clock ≠ .unset →
        (∀ n, (s.line n).state ≠ .claim ∧ ((s.line n).state = .idle → (s.line n).queue = [])) →
        ∃ t, exec .silenceBells s = .next t ∧ EndsAs (silenced.answer [] .done) t) ∧
      (∀ k : LineNo, 1 ≤ h.param 0 → h.param 0 ≤ 1440 → s.time.clock ≠ .unset → (s.line k).state = .claim →
        (∀ n, n ≠ k → (s.line n).state ≠ .claim) → (∀ n, (s.line n).state = .idle → (s.line n).queue = []) →
        (Claimant.line k ∈ s.arbiter.requests → ∃ t, exec .silenceBells s = .next t ∧
          EndsAs ((silenced.withArbiter { s.arbiter with requests := s.arbiter.requests.erase (.line k) }).answer [] .done) t) ∧
        ∀ released, s.arbiter.holder = some (.line k) → silenced.slotPasses released → Claimant.line k ∉ s.arbiter.requests →
          ∃ t, exec .silenceBells s = .next t ∧ EndsAs (released.answer [] .done) t)))

/-- CLEAR_STATUS clears every latched flag but OVERCURRENT, the four counts of every position, the mark error count and both counts of the
journal, and keeps the causes of ATTENTION and all else. The fields it cleared are written, whatever stood there: afterwards the flags of
each door section show OVERCURRENT alone and the words of the counts are 0 (R33, R148, R184, R198). That they are written where they stood
clear already (log entry 48), and that OVERCURRENT is the lowest bit of its range (log entry 52), is the model's reading. -/
def Obligations.ClearStatusClearsEverySection : Prop :=
  ∀ (h : InHand) (s : State), s.betweenEvents → s.orders.inHand = some h → h.order = .clearStatus →
    s.control.runState = .running →
    let door (d : Door) : Door := { d with flags := { DoorFlags.clear with overcurrent := d.flags.overcurrent } }
    let reader (r : Reader) : Reader := { r with checkErrors := 0, noResponses := 0, frameErrors := 0, stales := 0 }
    let u : State := { s with
      doors := s.doors.map door, readers := s.readers.map reader, time := { s.time with markErrors := 0 },
      journal := { s.journal with denialsUnrecorded := 0, noticesLost := 0 } }
    ∃ t, exec .clearStatus s = .next t ∧ EndsAs (u.answer [] .done) t ∧
      ∀ b, s.control.statusBlock = some b → Memory.wf s.mem = true → apart b (b + 352) (s.orders.current + 8) (s.orders.current + 12) →
        (∀ g : Gate, field (readWord t.mem (b + 16 * g.val)) 8 7 = bit (s.door g).flags.overcurrent) ∧
        (∀ p : Fin 16, readWords t.mem (b + 132 + 12 * p.val) 2 = [0, 0]) ∧ readWords t.mem (b + 324) 2 = [0, 0]

/-- JOURNAL_RESTART discards the unreleased records: the read position is the write position, U and the fill are 0, the oldest sequence is
the next, damage and its cause are cleared, the reservations, the next sequence, the counters, H and the threshold are kept, and the
output is the number discarded (R182). -/
def Obligations.JournalRestartDiscardsTheUnreleased : Prop :=
  ∀ (h : InHand) (s : State), s.betweenEvents → s.orders.inHand = some h → h.order = .journalRestart →
    s.control.runState = .running → s.noneWaitsForRoom →
    let j := { s.journal with
      readPos := s.journal.writePos, used := 0, unreleased := 0, oldestSeq := s.journal.nextSeq, damaged := false }
    let l := { s.control.latched with journalDamaged := false }
    ∃ t, exec .journalRestart s = .next t ∧ t.fillRead = 0 ∧ t.control.latched.journalDamaged = false ∧
      EndsAs (({ s with journal := j, control := { s.control with latched := l } } : State).answer
        [BitVec.ofNat 32 s.journal.unreleased] .done) t

/-! ### The run state -/

/-- CONTROL_WRITE: RUN set in STOPPED or FAULTED begins a start, with the sweep and the walk idle; RUN clear there has no effect but on the
request; in STARTING RUN clear clears the request; in STOPPING the request alone is replaced; RUN set in RUNNING has no effect (R119, R191,
R195). That RUN set in STARTING sets a request that was cleared is the model's reading (log entry 27). START_CHECKS_DONE: with the RUN
request clear the start is CANCELLED with no other change; with a check failing it is a failed start that names the first failing check,
with START_FAILED latched, the request clear and no worker, shift or exception table held. The checks are the thirteen of R189 in its order,
each with its result code and its index: the signature, the version, the counts of workers, bells and slots, the place of each region, the
words that two regions share, the journal parameters, the worker records with their live codes, the shift table, the gates, the bell table,
the slot states (R42, R48, R57, R112, R159, R185, R188–R191). That a journal whose end lies before its start has no words in the checks of
place and overlap, and the whole words it has where its end is no word address, is the model's choice (log entry 59); so is it that the
pairs of regions go by the lower index first, then by the higher (log entry 74). -/
def Obligations.ControlWriteAndStartActByTheRunState : Prop :=
  (∀ m : Memory,
    let a (i : Nat) : Nat := (readWord m (4 * i)).toNat
    let capacity := if a 11 < a 10 then 0 else (a 11 - a 10) / 4 + 1
    let h := a 14 % 65536
    let region (i : Nat) : Nat × Nat :=
      ([(0, 16), (a 2, 16 * a 3), (a 4, 512), (a 5, 48), (a 6, 4 * a 7), (a 8, 12 * a 9), (a 10, capacity), (a 13, 88)] :
        List (Nat × Nat)).getD i (0, 0)
    let placed (i : Nat) : Prop := (region i).1 % 4 = 0 ∧ ((region i).2 = 0 ∨ (region i).1 + 4 * (region i).2 ≤ 0x100000)
    let shared (i j : Nat) : Prop := ∃ x, (region i).1 ≤ x ∧ x < (region i).1 + 4 * (region i).2 ∧ (region j).1 ≤ x ∧
      x < (region j).1 + 4 * (region j).2
    let journal : Prop := a 10 % 4 = 0 ∧ a 11 % 4 = 0 ∧ a 10 < a 11 ∧ capacity % 4 = 0 ∧ 64 ≤ capacity ∧ capacity ≤ 131072 ∧
      h % 4 = 0 ∧ h ≤ 4096 ∧ h + 44 ≤ capacity
    let record (i : Nat) : Prop := let w := Worker.read m (a 2 + 64 * i)
      recordPasses m { base := a 2, count := a 3 } i = true ∧ w.presence ≠ .reserved ∧ (∀ o, w.openIn = some o → o.length ≤ 960) ∧
        w.rd ≤ 960 ∧ w.pendingCount ≤ 32
    let names (g p : Nat) : Prop := (GateEntry.read m (a 5) g).entry.position = some p ∨
      (GateEntry.read m (a 5) g).exit.position = some p
    let gate (n : Nat) : Prop := let e := GateEntry.read m (a 5) n
      e.entry.outOfRange = false ∧ e.exit.outOfRange = false ∧ (∀ p, e.entry.position = some p → e.exit.position ≠ some p) ∧
        ∀ k p, k < n → names n p → ¬ names k p
    let slot (i : Nat) : Prop := (readWord m (a 8 + 48 * i)).toNat ≤ 1
    let first (P : Nat → Prop) (n i : Nat) : Prop := i < n ∧ ¬ P i ∧ ∀ k, k < i → P k
    let heads : Prop := a 0 = 0x5A43C816 ∧ a 1 % 65536 = 2
    let counts : Prop := heads ∧ 1 ≤ a 3 ∧ a 3 ≤ 8192 ∧ a 7 ≤ 128 ∧ a 9 ≤ 32
    let regions : Prop := counts ∧ ∀ i, i < 8 → placed i
    let anchor : Prop := regions ∧ (∀ i j, i < j → j < 8 → ¬ shared i j) ∧ journal
    let workers : Prop := anchor ∧ ∀ i, i < a 3 → record i
    let shift : Prop := workers ∧ shiftTableFault m (a 4) = none
    let gates : Prop := shift ∧ ∀ n, n < 8 → gate n
    let bells : Prop := gates ∧ bellTableFault m (a 6) (a 7) = none
    (a 0 ≠ 0x5A43C816 → startFault m = some (.signature, 0)) ∧
    (a 0 = 0x5A43C816 → a 1 % 65536 ≠ 2 → startFault m = some (.version, 0)) ∧
    (heads → (a 3 = 0 ∨ 8192 < a 3) → startFault m = some (.workerTable, 65535)) ∧
    (heads → 1 ≤ a 3 → a 3 ≤ 8192 → 128 < a 7 → startFault m = some (.bellTable, 65535)) ∧
    (heads → 1 ≤ a 3 → a 3 ≤ 8192 → a 7 ≤ 128 → 32 < a 9 → startFault m = some (.exceptionSlot, 65535)) ∧
    (∀ i, counts → first placed 8 i → startFault m = some (.region, i)) ∧
    (∀ i j, regions → i < j → j < 8 → shared i j → (∀ k l, k < l → l < 8 → (k < i ∨ k = i ∧ l < j) → ¬ shared k l) →
      startFault m = some (.overlap, j)) ∧
    (regions → (∀ i j, i < j → j < 8 → ¬ shared i j) → ¬ journal → startFault m = some (.journal, 0)) ∧
    (∀ i, anchor → first record (a 3) i → startFault m = some (.workerTable, i)) ∧
    (∀ i, workers → shiftTableFault m (a 4) = some i → startFault m = some (.shiftTable, i)) ∧
    (∀ n, shift → first gate 8 n → startFault m = some (.gateTable, n)) ∧
    (∀ i, gates → bellTableFault m (a 6) (a 7) = some i → startFault m = some (.bellTable, i)) ∧
    (∀ i, bells → first slot (a 9) i → startFault m = some (.exceptionSlot, i)) ∧
    (bells → (∀ i, i < a 9 → slot i) → startFault m = none)) ∧
  ∀ (w : Word) (s : State), s.betweenEvents →
    let run := flagAt w 0
    let asked : State := { s with control := { s.control with runRequest := run } }
    ((s.control.runState = .stopped ∨ s.control.runState = .faulted) → run = true → ∃ t, exec (.controlWrite w) s = .next t ∧
      EndsAs { asked with
        control := { asked.control with runState := .starting }, orders := OrderUnit.reset,
        engine := { s.engine with sweep := .idle, sweepPending := false } } t) ∧
    ((s.control.runState = .stopped ∨ s.control.runState = .faulted) → run = false →
      ∃ t, exec (.controlWrite w) s = .next t ∧ EndsAs asked t) ∧
    ((s.control.runState = .starting ∨ s.control.runState = .stopping) →
      ∃ t, exec (.controlWrite w) s = .next t ∧ EndsAs asked t) ∧
    (s.control.runState = .running → run = true → ∃ t, exec (.controlWrite w) s = .next t ∧ EndsAs asked t) ∧
    (s.control.runState = .starting → s.control.runRequest = false → ∃ t, exec .startChecksDone s = .next t ∧
      EndsAs { s with control := { s.control with runState := .stopped, startResult := .cancelled, startIndex := 0 } } t) ∧
    (∀ f, s.control.runState = .starting → s.control.runRequest = true → startFault s.mem = some f →
      ∃ t, exec .startChecksDone s = .next t ∧
        EndsAs { s with
          control := { s.control with runState := .stopped, runRequest := false, startResult := f.1, startIndex := f.2,
                                      latched := { s.control.latched with startFailed := true } },
          engine := { s.engine with workers := none, shift := none, exceptions := none } } t)

/-- CONTROL_WRITE with RUN clear in RUNNING enters STOPPING: the sweep is IDLE with no pending mark, no free window, pending free
request or pending free send is left, no channel is in FREE or in the claim or hit of a free cycle, no line is in DELAY and none
holds more than its head, and an order in hand goes on with the end mark set, but for an install in VERIFY: it ends ABORTED with the index it
stands at, and the walk with it, ORDERS_DONE latched, while a CARRY runs on. A channel in FREE is CLOSING with its held-open timer running if
its contact is OPEN, and with no punch waiting IDLE else; one in IDLE, a punch cycle's HIT, HOLD, CLOSING or OUT_OF_SERVICE stands but for the
free window, and so does a punch cycle's CLAIM where the slot is held by none that releases it; a line in DELAY is IDLE and empty, one in ON,
GAP or SETTLE, and in CLAIM likewise, keeps its head and runs on. The queues, the journal, the time and the readers stand, and every byte of
common memory but the words of an ABORTED and the status block; with
no punch in flight, every line IDLE and no walk the part is STOPPED (R42, R47, R124, R145, R150, R172, R192, R197). -/
def Obligations.EntryToStoppingReachesEveryBlock : Prop :=
  ∀ (w : Word) (s : State), s.betweenEvents → s.freeLaw → s.control.runState = .running → flagAt w 0 = false →
    ∃ t, exec (.controlWrite w) s = .next t ∧ t.control.runRequest = false ∧ t.engine.sweep = .idle ∧
      t.engine.sweepPending = false ∧ (t.control.runState = .stopping ∨ t.control.runState = .stopped) ∧
      (∀ g, (t.door g).freeEnd = none ∧ (t.door g).freePending = false ∧ t.freeSend g = none ∧ (t.door g).state ≠ .free ∧
        ((t.door g).state = .claim ∨ (t.door g).state = .hit → (t.door g).cycle = .punch)) ∧
      (∀ n, (t.line n).state ≠ .delay ∧ (t.line n).queue.length ≤ 1) ∧
      (∀ h, s.orders.inHand = some h → s.orders.walking = true →
        (h.order ≠ .installWorkerTable ∨ s.engine.install.inCarry = true →
          t.orders = { s.orders with endMark := true } ∧ t.engine.install = s.engine.install) ∧
        ∀ (table : Table) (i : Nat), h.order = .installWorkerTable → s.engine.install = .verify table i →
          t.engine.install = .idle ∧ t.orders = OrderUnit.reset ∧ t.control.latched.ordersDone = true ∧
            (Memory.wf s.mem = true → s.apartFromStatus (s.orders.current + 8) 1 →
              readWord t.mem (s.orders.current + 8) = (OrderResult.aborted i).word)) ∧
      (∀ g, let d := s.door g
        let ended : Door := { d with freePending := false, freeEnd := none }
        (d.state = .free → d.contact = .opened → t.door g =
          { ended with state := .closing, served := none, openTimer := none, heldTimer := d.heldFrom s.time.osc }) ∧
        (d.state = .free → d.contact = .closed → s.queue g = [] →
          t.door g = { ended with state := .idle, served := none, openTimer := none }) ∧
        (d.state = .idle ∨ d.state = .hold ∨ d.state = .closing ∨ d.state = .outOfService ∨ d.state = .hit ∧ d.cycle = .punch →
          t.door g = ended) ∧
        (d.state = .claim → d.cycle = .punch → s.slotStays → t.door g = ended)) ∧
      (∀ n, let l := s.line n
        (l.state = .delay → t.line n = { l with state := .idle, queue := [], pulsesDone := 0, cut := false }) ∧
        (l.state = .on ∨ l.state = .gap ∨ l.state = .settle → t.line n = { l with queue := l.queue.take 1 }) ∧
        (l.state = .claim → s.slotStays → t.line n = { l with queue := l.queue.take 1 })) ∧
      (∀ a, s.offStatus a →
        (∀ h table i, s.orders.inHand = some h → h.order = .installWorkerTable → s.engine.install = .verify table i →
          ¬ wordsAt (s.orders.current + 8) 1 a ∧ ¬ wordsAt (s.orders.current + 12 + 4 * h.params.length) 3 a) →
        readByte t.mem a = readByte s.mem a) ∧
      t.engine.queues = s.engine.queues ∧ t.journal = s.journal ∧ t.time = s.time ∧ t.readers = s.readers ∧ t.links = s.links ∧
      t.supply = s.supply ∧
      (t.control.runState = .stopped ↔
        (∀ g, t.queue g = []) ∧ (∀ n, (t.line n).state = .idle) ∧ t.orders.walking = false)

/-- START_CHECKS_DONE with every check passed: RUNNING with result STARTED, the tables, the status block, the journal and the bell table of
the anchor held, the journal empty from the anchor's first sequence, each channel with the clamped parameters of its gate entry, each
line with its clamped minimum on, the clock and the supply as before, the whole status block written. Every worker record has no punch in
flight and a pending count equal to the PENDING slots that name its badge, its other fields and every other byte of common memory outside
the status block standing. The position map is formed from the gate table: a position newly named is PROBING with its probe due at once, one
that stays named takes its gate and role, one no longer named is ABSENT, the error counts kept (R17). A channel out of CLAIM with no punch waiting:
one whose entry names no reader is IDLE with its holds, conditions, timers and supervision cleared; one in TIMED has its contact held CLOSED,
its conditions and held-open timer cleared; one newly equipped or newly in CONTACT begins supervision; else it is as before
(R48, R128, R129, R161, R172, R185, R189, R198). That a position newly named has a failure run of 0 (log entry 61), that a CLOSING channel in
TIMED is IDLE (log entry 18), and that one supervised in CONTACT before goes on with it (log entry 55), is the model's reading. -/
def Obligations.StartEndsRunning : Prop :=
  ∀ s : State, s.betweenEvents → Memory.wf s.mem = true → s.control.runState = .starting → s.control.runRequest = true →
    startFault s.mem = none →
    let a := Anchor.read s.mem
    let place (p : Fin 16) (x : Gate × Role) : Prop :=
      let e := GateEntry.read s.mem a.gateTable x.1.val
      (match x.2 with
        | .entry => e.entry
        | .exit => e.exit).position = some p.val
    ∃ t, exec .startChecksDone s = .next t ∧ t.control.runState = .running ∧ t.control.startResult = .started ∧
      t.control.startIndex = 0 ∧ t.control.statusBlock = some a.statusBlock ∧ t.control.gateTable = some a.gateTable ∧
      t.control.latched = s.control.latched ∧
      t.engine = { s.engine with
        workers := some a.workers, shift := some a.shift, exceptions := some a.exceptions, install := .idle,
        lastException := { code := none, slot := 0, badge := 0 } } ∧
      t.bells.current = some a.bells ∧ t.bells.pendingTable = none ∧ t.bells.silenceEnd = s.bells.silenceEnd ∧
      t.journal = { s.journal with
        region := some { first := a.journalFirst, last := a.journalLast }, writePos := a.journalFirst,
        readPos := a.journalFirst, used := 0, reserved := 0, unreleased := 0,
        nextSeq := if a.firstSeq = 0 then 1 else a.firstSeq, oldestSeq := if a.firstSeq = 0 then 1 else a.firstSeq,
        damaged := false, denialsUnrecorded := 0, noticesLost := 0, holdLevel := a.holdLevel, threshold := a.threshold } ∧
      (∀ g, (t.door g).params = some (GateEntry.read s.mem a.gateTable g.val).params ∧
        (t.door g).equipped = (GateEntry.read s.mem a.gateTable g.val).equipped ∧
        ((s.door g).state ≠ .claim → s.queue g = [] → (s.door g).freePending = false →
          t.door g = (s.door g).taken (GateEntry.read s.mem a.gateTable g.val))) ∧
      (∀ n : LineNo, (t.line n).minOn = clamp 1 20 (lineMinOn s.mem a.gateTable n.val)) ∧
      (∀ p,
        let r := s.reader p
        (∀ x, place p x → t.reader p = if r.placed = none then
            { r with state := .probing, placed := some x, failRun := 0, probeDue := s.time.absTick, lastReport := none, indCounter := 0,
                     outstanding := none, tamper := false, sensorFault := false }
          else { r with placed := some x }) ∧
        ((∀ x, ¬ place p x) → t.reader p = if r.placed = none then r
          else { r with state := .absent, placed := none, outstanding := none, tamper := false, sensorFault := false })) ∧
      (∀ i, i < a.workers.count →
        let ref : WorkerRef := { base := a.workers.base, index := i }
        let w := s.worker ref
        t.worker ref = { w with
          inFlight := none,
          pendingCount := ((List.range a.exceptions.count).filter fun k =>
            slotState s.mem a.exceptions k == 1 && slotBadge s.mem a.exceptions k == w.badge).length }) ∧
      (∀ x, ¬ wordsAt a.statusBlock 88 x → (∀ i, i < a.workers.count → ¬ wordsAt (a.workers.base + 64 * i + 16) 1 x) →
        readByte t.mem x = readByte s.mem x) ∧
      t.time = s.time ∧ t.supply = s.supply ∧ t.links = s.links ∧ t.orders = s.orders ∧
      readWords t.mem a.statusBlock 88 = t.statusWords

/-- MEMORY_FAULT outside FAULTED: FAULTED with MEMORY_FAULT latched and the request clear, no status block, no table and no journal held,
every queue empty, the arbiter empty, the walk idle with no ORDERS_DONE, every line IDLE with its queue empty, no coil driven, every
channel in a cycle in CLOSING or IDLE by its contact, clock, links and supply as they stand, and in common memory the words that the
cut event had written and no other; in FAULTED nothing more happens
(R88, R150, R157, R172, R186, R193, R197; the words of the cut event and the fault at a word that is no word address of common memory
are the model's, log entry 8). -/
def Obligations.MemoryFaultDropsWhatThePartHolds : Prop :=
  ∀ (cut : List (Nat × Word)) (s : State), s.betweenEvents →
    (s.control.runState ≠ .faulted → (∀ c ∈ cut, c.1 % 4 = 0 ∧ c.1 + 4 ≤ 0x100000) →
      ∃ t, exec (.memoryFault cut) s = .next t ∧ t.control.runState = .faulted ∧
      t.control.runRequest = false ∧ t.control.statusBlock = none ∧
      t.control.latched = { s.control.latched with memoryFault := true } ∧
      t.engine = { s.engine with
        workers := none, shift := none, exceptions := none, queues := Vector.replicate 8 [], sweep := .idle, sweepPending := false,
        install := .idle, takeTotals := none } ∧
      t.arbiter = { holder := none, requests := [] } ∧ t.orders = OrderUnit.reset ∧
      t.journal = { s.journal with region := none, reserved := 0, unreleased := 0, holdTimer := none } ∧ t.fillRead = 0 ∧
      t.levelActive = false ∧ t.holdActive = false ∧ (∀ n, (t.line n).state = .idle ∧ (t.line n).queue = []) ∧
      (∀ g, (t.door g).coil = .off ∧ t.freeSend g = none ∧ (t.door g).state =
        (match (s.door g).state with
          | .claim | .hit | .hold | .free => if (s.door g).contact = .opened then DoorState.closing else .idle
          | .idle => .idle
          | .closing => .closing
          | .outOfService => .outOfService)) ∧
      t.bells.current = none ∧ t.bells.pendingTable = none ∧ t.bells.silenceEnd = s.bells.silenceEnd ∧
      t.mem = cut.foldl (fun m c => writeWord m c.1 c.2) s.mem ∧ t.time = s.time ∧ t.readers = s.readers ∧ t.links = s.links ∧
      t.supply = s.supply ∧ t.pending = s.pending) ∧
    (s.control.runState ≠ .faulted → (∃ c ∈ cut, c.1 % 4 ≠ 0 ∨ 0x100000 < c.1 + 4) →
      exec (.memoryFault cut) s = .fault .noSuchAddress) ∧
    (s.control.runState = .faulted → exec (.memoryFault cut) s = .next s)

/-! ### Doors -/

/-- MOVED: in SEEK_DIP, a dip sample that brings the dip run to g sets MOVED, with V and its time the run minimum and its time; the substate
is SEEK_VALLEY and P stands; nothing else changes while the hit goes on (R131). VALLEY_COMPLETE: in RECOVER, a sample at or above P
completes the valley; without END_HIT_AUTO the hit goes on with its measures written: peak, valley, reaction time, and travel time from the
peak to the valley (R132); that it goes on in RECOVER is the model's reading (log entry 68). With END_HIT_AUTO the same sample ends the hit,
as VALLEY_COMPLETE and as HIT_END: the slot passes to the head of the list, or is left free where no one waits, the measures are written,
HIT_NOT_REACHED is latched where the peak lies below I_chk, and with the contact CLOSED a punch is in HOLD with its open timer started and a
free cycle in FREE with its queue reported free (R81, R132–R135, R143, R155, R156). -/
def Obligations.MovementIsFoundInTheHit : Prop :=
  ∀ (g : Gate) (x : CoilSample) (s : State),
    let d := s.door g
    let m := d.movement
    let lowest := m.dipRun = 0 ∨ x.current < m.runMin
    s.betweenEvents → d.state = .hit → x.current < 3750 → m.ms + 1 < d.par.hitMax →
    (m.substate = .seekDip → m.moved = false → x.current ≤ m.peak → d.par.iDip ≤ m.peak → x.current + d.par.iDip ≤ m.peak →
      m.dipRun + 1 = d.par.deglitch →
      ∃ t, exec (.moved g [x]) s = .next t ∧
        EndsAs (s.setDoor g { d with overRun := 0, movement := { m with
          ms := m.ms + 1, dipRun := m.dipRun + 1, moved := true, substate := .seekValley,
          runMin := if lowest then x.current else m.runMin, runMinTime := if lowest then m.ms + 1 else m.runMinTime,
          valley := if lowest then x.current else m.runMin, valleyTime := if lowest then m.ms + 1 else m.runMinTime } }) t) ∧
    (m.substate = .recover → m.moved = true → m.written = false → m.peak ≤ x.current → m.valley ≤ x.current →
      d.par.endHitAuto = false →
      ∃ t, exec (.valleyComplete g [x]) s = .next t ∧
        EndsAs (s.setDoor g { d with
          overRun := 0, movement := { m with ms := m.ms + 1, written := true },
          measures := { peak := m.peak, valley := some m.valley, reaction := some m.valleyTime,
                        travel := some (m.valleyTime - m.peakTime) } }) t) ∧
    (m.substate = .recover → m.moved = true → m.written = false → m.peak ≤ x.current → m.valley ≤ x.current →
      d.par.endHitAuto = true → d.contact = .closed → s.arbiter.holder = some (.door g) → ∀ released, s.slotPasses released →
      let ended : Door := { d with
        overRun := 0, winCount := 0, winMillivolts := 0, winCurrent := 0, movement := { m with ms := m.ms + 1, written := true },
        measures := { peak := m.peak, valley := some m.valley, reaction := some m.valleyTime, travel := some (m.valleyTime - m.peakTime) },
        flags := { d.flags with hitNotReached := d.flags.hitNotReached || decide (m.peak < d.par.iChk) } }
      (d.cycle = .punch → ∃ t, exec (.valleyComplete g [x]) s = .next t ∧ exec (.hitEnd g [x]) s = .next t ∧
        EndsAs (released.setDoor g { ended with state := .hold, openTimer := some s.time.osc }) t) ∧
      (d.cycle = .free → ∃ t, exec (.valleyComplete g [x]) s = .next t ∧ exec (.hitEnd g [x]) s = .next t ∧
        EndsAs ((released.setDoor g { ended with state := .free, served := none, openTimer := none, heldTimer := none }).setQueue g
          (reportedQueue (s.queue g) .free)) t))

/-- HIT_END at hit time max: the slot passes to the head of the list, which takes its grant, or is left free where no one waits. With MOVED
and the contact CLOSED a punch enters HOLD with its open timer started and a free cycle enters FREE, its queue reported free. Without MOVED
the channel latches NO_MOVE (and HIT_NOT_REACHED below I_chk) with a notice, marks the punch, and under PROCEED enters HOLD, under ABORT
voids the punch and is IDLE; a free cycle under PROCEED enters FREE, under ABORT is IDLE with its free end minute none. A punch whose early
opening was noted, or whose contact stood OPEN at the hit start, with the contact OPEN at the end: PASSED is reported and the channel is
CLOSING with its held-open timer running, with NO_MOVE latched, noticed and marked where the hit has not MOVED, whatever the policy (R81,
R130, R131–R135, R143, R155, R156, R166). -/
def Obligations.HitEndsByMovementAndPolicy : Prop :=
  ∀ (g : Gate) (x : CoilSample) (s : State),
    let d := s.door g
    let m := d.movement
    let ended : Door := { d with overRun := 0, movement := { m with ms := m.ms + 1 } }
    let notReached := decide (m.peak < d.par.iChk)
    s.betweenEvents → d.state = .hit → x.current < 3750 → m.ms + 1 = d.par.hitMax →
    s.arbiter.holder = some (.door g) → ∀ released, s.slotPasses released →
    (d.contact = .closed → m.substate = .recover → m.moved = true → m.written = true → m.valley ≤ x.current → d.par.iChk ≤ m.peak →
      (d.cycle = .punch → ∃ t, exec (.hitEnd g [x]) s = .next t ∧
        EndsAs (released.setDoor g { ended with
          state := .hold, openTimer := some s.time.osc, winCount := 0, winMillivolts := 0, winCurrent := 0 }) t) ∧
      (d.cycle = .free → ∃ t, exec (.hitEnd g [x]) s = .next t ∧
        EndsAs ((released.setDoor g { ended with
          state := .free, served := none, openTimer := none, heldTimer := none, winCount := 0, winMillivolts := 0,
          winCurrent := 0 }).setQueue g
            ((s.queue g).map fun p => { p with report := if p.report = none then some .free else p.report })) t)) ∧
    (∀ p : Punch, d.contact = .closed → d.cycle = .punch → m.substate = .search → m.moved = false → x.current < d.par.iStart →
      x.current ≤ m.peak → d.freePending = false → s.queue g = [p] → p.report = none → d.served = some p.worker → s.noticeRoom 1 →
      let still : Door := { d with
        overRun := 0, movement := { m with ms := m.ms + 1, written := true },
        measures := if m.written then d.measures else { peak := m.peak, valley := none, reaction := none, travel := none },
        flags := { d.flags with noMove := true, hitNotReached := d.flags.hitNotReached || notReached } }
      (d.par.policy = .proceed → ∃ t, exec (.hitEnd g [x]) s = .next t ∧
        EndsAs (((released.setDoor g { still with
          state := .hold, openTimer := some s.time.osc, winCount := 0, winMillivolts := 0, winCurrent := 0 }).setQueue g
            [{ p with noMove := true }]).doorNoticeAt g .noMove notReached m.peak) t) ∧
      (d.par.policy = .abort → ∃ t, exec (.hitEnd g [x]) s = .next t ∧
        EndsAs (((released.setDoor g { still with state := .idle, served := none, openTimer := none }).setQueue g
          [{ p with report := some (.voided .noMove) }]).doorNoticeAt g .noMove notReached m.peak) t)) ∧
    (d.cycle = .free → m.substate = .search → m.moved = false → x.current < d.par.iStart → x.current ≤ m.peak → s.noticeRoom 1 →
      let still : Door := { ended.measured with
        served := none, openTimer := none,
        flags := { d.flags with noMove := true, hitNotReached := d.flags.hitNotReached || notReached } }
      (d.par.policy = .proceed → ∃ t, exec (.hitEnd g [x]) s = .next t ∧
        EndsAs (((released.setDoor g { still with
          state := .free, heldTimer := none, winCount := 0, winMillivolts := 0, winCurrent := 0 }).setQueue g
            (reportedQueue (s.queue g) .free)).doorNoticeAt g .noMove notReached m.peak) t) ∧
      (d.par.policy = .abort → d.freePending = false → s.queue g = [] → ∃ t, exec (.hitEnd g [x]) s = .next t ∧
        EndsAs ((released.setDoor g { still with state := .idle, freeEnd := none }).doorNoticeAt g .noMove notReached m.peak) t)) ∧
    ∀ p : Punch, d.contact = .opened → d.cycle = .punch → (m.earlyOpening = true ∨ m.openAtStart = true) →
      s.queue g = [p] → p.report = none → d.served = some p.worker →
      let passed : Door := { ended.measured with
        flags := { d.flags with hitNotReached := d.flags.hitNotReached || notReached }, state := .closing, served := none,
        openTimer := none, heldTimer := d.heldFrom s.time.osc }
      (m.substate = .recover → m.moved = true → m.valley ≤ x.current → ∃ t, exec (.hitEnd g [x]) s = .next t ∧
        EndsAs ((released.setDoor g passed).setQueue g [{ p with report := some .passed }]) t) ∧
      (m.substate = .search → m.moved = false → x.current < d.par.iStart → x.current ≤ m.peak → s.noticeRoom 1 →
        ∃ t, exec (.hitEnd g [x]) s = .next t ∧
          EndsAs (((released.setDoor g { passed with flags := { passed.flags with noMove := true } }).setQueue g
            [{ p with noMove := true, report := some .passed }]).doorNoticeAt g .noMove notReached m.peak) t)

/-- OPEN_TIMER_EXPIRY in HOLD when the open time has run: NOT_PASSED is reported for the served punch in passage mode CONTACT, PASSED in
TIMED; the coil is off and the channel IDLE, its queue holding no other punch (R81, R135).
STRETCH_TIMER_EXPIRY: 2 s after it was started the stretch timer releases the alarm output, no condition holding (R147). -/
def Obligations.DoorTimersRunOut : Prop :=
  ∀ s : State, s.betweenEvents →
    (∀ (g : Gate) (p : Punch) (start : Nat),
      let d := s.door g
      d.state = .hold → d.openTimer = some start → start + 20 * d.par.openTime ≤ s.time.osc →
      s.queue g = [p] → p.report = none → d.served = some p.worker → d.freePending = false →
      ∃ t, exec (.openTimerExpiry g) s = .next t ∧
        EndsAs ((s.setQueue g [{ p with report := some (if d.par.mode = .contact then .notPassed else .passed) }]).setDoor g
          { d with state := .idle, served := none, openTimer := none }) t) ∧
    (∀ start, s.alarmLaw → s.control.stretch = some start → start + 40 ≤ s.time.osc →
      ∃ t, exec .stretchTimerExpiry s = .next t ∧ t.control.alarm = false ∧ t.control.stretch = none ∧
        EndsAs { s with control := { s.control with alarm := false, stretch := none } } t)

/-- The contact, at the twentieth sample of a new level in passage mode CONTACT. CONTACT_OPENING in HOLD reports PASSED for the served punch
and the channel is CLOSING with its held-open timer running; in the hit of a punch it is noted as early, and in either hit the timer runs
(log entry 46); in FREE it is ignored. CONTACT_CLOSING in CLOSING clears the unresolved conditions and stops the timer, and the channel is
IDLE when its queue is empty; in any other state but FREE it does the same and the state stands; in FREE the conditions and the timer stand.
Each closing ends the standing open that HELD_OPEN is raised once for (log entry 34). CONTACT_TAKEN takes
a CLOSED contact as it stands, and finds an OPEN one no opening: an IDLE channel is CLOSING, no FORCED is raised, and in every state but FREE
the held-open timer runs from there (R129, R135, R137, R144). -/
def Obligations.ContactEventsAreTakenByTheState : Prop :=
  ∀ (g : Gate) (level : Contact) (s : State),
    let d := s.door g
    let steady : Door := { d with rawRun := 20, rawLevel := level }
    let held := d.heldFrom s.time.osc
    s.betweenEvents → d.equipped = true → d.par.mode = .contact → d.rawLevel = level → d.rawRun = 19 →
    (∀ p, level = .opened → d.settling = false → d.contact = .closed → d.state = .hold → s.queue g = [p] → p.report = none →
      d.served = some p.worker → ∃ t, exec (.contactOpening g [.opened]) s = .next t ∧
        EndsAs ((s.setQueue g [{ p with report := some .passed }]).setDoor g { steady with
          contact := .opened, state := .closing, served := none, openTimer := none, heldTimer := held }) t) ∧
    (level = .opened → d.settling = false → d.contact = .closed → d.state = .hit → ∃ t, exec (.contactOpening g [.opened]) s = .next t ∧
      EndsAs (s.setDoor g { steady with
        contact := .opened, heldTimer := held,
        movement := { d.movement with earlyOpening := d.movement.earlyOpening || d.cycle == .punch } }) t) ∧
    (level = .opened → d.settling = false → d.contact = .closed → d.state = .free →
      ∃ t, exec (.contactOpening g [.opened]) s = .next t ∧ EndsAs (s.setDoor g { steady with contact := .opened }) t) ∧
    (level = .closed → d.settling = false → d.contact = .opened → d.state ≠ .free →
      (d.state = .closing → s.queue g = [] ∧ d.freePending = false) →
      ∃ t, exec (.contactClosing g [.closed]) s = .next t ∧
        let shut : Door := { steady with
          contact := .closed, forcedUnresolved := false, heldUnresolved := false, heldRaised := false, heldTimer := none }
        EndsAs (s.setDoor g (if d.state = .closing then { shut with state := .idle, served := none, openTimer := none } else shut)) t) ∧
    (level = .closed → d.settling = false → d.contact = .opened → d.state = .free →
      ∃ t, exec (.contactClosing g [.closed]) s = .next t ∧
        EndsAs (s.setDoor g { steady with contact := .closed, heldRaised := false }) t) ∧
    (level = .closed → d.settling = true → d.state ≠ .closing → ∃ t, exec (.contactTaken g [.closed]) s = .next t ∧
      EndsAs (s.setDoor g { steady with contact := .closed, settling := false, heldRaised := false }) t) ∧
    (level = .opened → d.settling = true → ∃ t, exec (.contactTaken g [.opened]) s = .next t ∧
      let taken : Door := { steady with contact := .opened, settling := false, heldTimer := if d.state = .free then d.heldTimer else held }
      EndsAs (s.setDoor g (if d.state = .idle then { taken with state := .closing, served := none, openTimer := none } else taken)) t)

/-- CONTACT_OPENING that is forced, in IDLE, CLAIM or OUT_OF_SERVICE: FORCED is latched and unresolved with its notice, the held-open timer
runs, DOOR_FAULT is latched; IDLE goes to CLOSING and the other two stay. HELD_OPEN, when the timer has run its limit with the contact
OPEN: HELD_OPEN is latched and unresolved with its notice, DOOR_FAULT is latched, the state stands; it is raised once for each standing open,
and a second command changes nothing (log entry 34). Both drive the alarm (R129, R137, R138, R147, R148). -/
def Obligations.ForcedAndHeldOpenAreRaised : Prop :=
  ∀ (g : Gate) (s : State),
    let d := s.door g
    let forced : Door := { d with
      rawRun := 20, rawLevel := .opened, contact := .opened, flags := { d.flags with forced := true }, forcedUnresolved := true,
      heldTimer := if d.heldTimer = none then some s.time.osc else d.heldTimer }
    let raised (d' : Door) (c : DoorCause) (value : Nat) : State :=
      ((s.setDoor g d').doorNoticeAt g c false value).latch Latched.setDoorFault
    s.betweenEvents → s.noticeRoom 1 →
    (d.equipped = true → d.par.mode = .contact → d.rawLevel = .opened → d.rawRun = 19 → d.settling = false →
      d.contact = .closed →
      (d.state = .idle → ∃ t, exec (.contactOpening g [.opened]) s = .next t ∧ t.control.alarm = true ∧
        EndsAs (raised { forced with state := .closing, served := none, openTimer := none } .forced 0) t) ∧
      ((d.state = .claim ∨ d.state = .outOfService) → ∃ t, exec (.contactOpening g [.opened]) s = .next t ∧ t.control.alarm = true ∧
        EndsAs (raised forced .forced d.state.code) t)) ∧
    (∀ start, d.contact = .opened → d.state ≠ .free → d.heldRaised = false → d.heldTimer = some start →
      start + 20 * d.par.heldLimit ≤ s.time.osc →
      ∃ t, exec (.heldOpen g) s = .next t ∧ t.control.alarm = true ∧
        EndsAs (raised { d with flags := { d.flags with heldOpen := true }, heldUnresolved := true, heldRaised := true } .heldOpen
          d.par.heldLimit) t) ∧
    (d.heldRaised = true → exec (.heldOpen g) s = .next s)

/-- OVERCURRENT at the third sample in a row at or above 15.0 A, in the hit that holds the slot, in HOLD or in FREE: the coil is off and the
channel OUT_OF_SERVICE with OVERCURRENT latched and its hold set, every punch not yet reported is VOIDED with cause OVERCURRENT, the free
end and the pending request are gone, with a notice that names the state left, DOOR_FAULT latched and the alarm driven; out of a hit the
measures are written and the slot passes to the head of the list, which takes its grant, or is left free where no one waits; with the
contact OPEN and supervised the held-open timer runs (R137, R139, R147, R148, R155, R156); that it starts at a trip out of FREE is the
model's reading (log entry 46). A tripping sample that is also the hundredth of its window closes no window, by the model's choice (log
entry 54). OPEN_LOAD_TEST in IDLE or OUT_OF_SERVICE: a failing test without the hold latches LOAD_OPEN, sets the hold, voids the queue and
takes the channel OUT_OF_SERVICE with a notice and DOOR_FAULT latched; with the hold set a failing test sets the run to 0 and a passing one
adds 1 to it. The third clears the hold: with the overcurrent hold set the state stands, else the channel is back, CLOSING with its
held-open timer running if the contact is OPEN, IDLE with an empty queue otherwise; a passing test without the hold changes nothing (R140). -/
def Obligations.CoilFaultsTakeTheChannelOut : Prop :=
  ∀ (g : Gate) (s : State),
    let d := s.door g
    s.betweenEvents → d.equipped = true →
    (∀ x : CoilSample, 3750 ≤ x.current → d.overRun = 2 → s.noticeRoom 1 →
      let out (d : Door) : Door := { d with
        overRun := 3, state := .outOfService, served := none, openTimer := none, overcurrentHold := true,
        flags := { d.flags with overcurrent := true }, freeEnd := none, freePending := false,
        heldTimer := if d.contact = .opened ∧ d.settling = false then d.heldFrom s.time.osc else d.heldTimer }
      let tripped (u : State) (d : Door) (t : State) : Prop := exec (.overcurrent g [x]) s = .next t ∧ t.control.alarm = true ∧
        (t.door g).coil = .off ∧
        EndsAs ((((u.setDoor g (out d)).setQueue g (reportedQueue (s.queue g) (.voided .overcurrent))).doorNoticeAt g .overcurrent false
          (s.door g).state.code).latch Latched.setDoorFault) t
      ((d.state = .hold ∨ d.state = .free) → s.arbiter.holder ≠ some (.door g) → ∃ t, tripped s { d with
        winCount := d.winCount + 1, winMillivolts := d.winMillivolts + x.millivolts, winCurrent := d.winCurrent + x.current } t) ∧
      (∀ released, d.state = .hit → s.arbiter.holder = some (.door g) → s.slotPasses released →
        (d.movement.substate = .search ∧ x.current < d.par.iStart ∧ x.current ≤ d.movement.peak ∨
          d.movement.substate = .recover ∧ d.movement.valley ≤ x.current) →
        ∃ t, tripped released
          ({ d with movement := { d.movement with ms := d.movement.ms + 1 } } : Door).measured t)) ∧
    ((d.state = .idle ∨ d.state = .outOfService) →
      (d.openLoadHold = false → s.noticeRoom 1 → ∃ t, exec (.openLoadTest g false) s = .next t ∧ t.control.alarm = true ∧
        EndsAs ((((s.setDoor g { d with
          flags := { d.flags with loadOpen := true }, openLoadHold := true, passRun := 0, state := .outOfService,
          served := none }).setQueue g (reportedQueue (s.queue g) (.voided .loadOpen))).doorNoticeAt g .loadOpen false 0).latch
            Latched.setDoorFault) t) ∧
      (d.openLoadHold = true → ∃ t, exec (.openLoadTest g false) s = .next t ∧ EndsAs (s.setDoor g { d with passRun := 0 }) t) ∧
      (d.openLoadHold = true → d.passRun + 1 < 3 → ∃ t, exec (.openLoadTest g true) s = .next t ∧
        EndsAs (s.setDoor g { d with passRun := d.passRun + 1 }) t) ∧
      (d.openLoadHold = true → d.passRun = 2 →
        let clear : Door := { d with openLoadHold := false, passRun := 0 }
        (d.overcurrentHold = true → ∃ t, exec (.openLoadTest g true) s = .next t ∧ EndsAs (s.setDoor g clear) t) ∧
        (d.overcurrentHold = false → d.contact = .opened → ∃ t, exec (.openLoadTest g true) s = .next t ∧
          EndsAs (s.setDoor g { clear with
            state := .closing, served := none, openTimer := none, heldTimer := d.heldFrom s.time.osc }) t) ∧
        (d.overcurrentHold = false → d.contact = .closed → d.freePending = false → s.queue g = [] →
          ∃ t, exec (.openLoadTest g true) s = .next t ∧
            EndsAs (s.setDoor g { clear with state := .idle, served := none, openTimer := none }) t)) ∧
      (d.openLoadHold = false → ∃ t, exec (.openLoadTest g true) s = .next t ∧ EndsAs s t))

/-- RESISTANCE_WINDOW at the hundredth sample in HOLD or FREE: the last resistance is the quotient of the sums in units of 10 mΩ, 65535 above
that or without current, and the next window begins; above R_hot with COIL_HOT clear it latches COIL_HOT and DOOR_FAULT with a notice. HOLD
stands as it is; FREE ends, its free end minute none: the channel is CLOSING with its held-open timer running if the contact stands OPEN,
IDLE otherwise, its queue empty (R136, R145; the unit of the voltage is the model's, log entry 9). -/
def Obligations.ResistanceWindowIsClosed : Prop :=
  ∀ (g : Gate) (x : CoilSample) (s : State),
    let d := s.door g
    let volts := d.winMillivolts + x.millivolts
    let amps := d.winCurrent + x.current
    let r := if amps = 0 then 65535 else min 65535 (25 * volts / amps)
    let d' : Door := { d with overRun := 0, lastResistance := r, winCount := 0, winMillivolts := 0, winCurrent := 0 }
    let hot : Door := { d' with flags := { d.flags with coilHot := true } }
    let noticed (d : Door) : State := ((s.setDoor g d).doorNoticeAt g .coilHot false r).latch Latched.setDoorFault
    s.betweenEvents → (d.state = .hold ∨ d.state = .free) → x.current < 3750 → d.winCount = 99 →
    (r ≤ d.par.rHot ∨ d.flags.coilHot = true → ∃ t, exec (.resistanceWindow g [x]) s = .next t ∧ EndsAs (s.setDoor g d') t) ∧
    (d.par.rHot < r → d.flags.coilHot = false → s.noticeRoom 1 →
      (d.state = .hold → ∃ t, exec (.resistanceWindow g [x]) s = .next t ∧ EndsAs (noticed hot) t) ∧
      (d.state = .free → d.contact = .opened → ∃ t, exec (.resistanceWindow g [x]) s = .next t ∧
        EndsAs (noticed { hot with
          state := .closing, served := none, openTimer := none, freeEnd := none, heldTimer := d.heldFrom s.time.osc }) t) ∧
      (d.state = .free → d.contact = .closed → d.freePending = false → s.queue g = [] →
        ∃ t, exec (.resistanceWindow g [x]) s = .next t ∧
          EndsAs (noticed { hot with state := .idle, served := none, openTimer := none, freeEnd := none }) t))

/-! ### Supply -/

/-- SUPPLY_LOW at the third sample in a row below 19.0 V: the supply is LOW and the alarm driven, the arbiter is empty. No free window or request
is left; a channel in CLAIM or HIT is IDLE, with its measures written out of a hit, one in HOLD or FREE is CLOSING with its held-open timer
running if its contact stands OPEN and IDLE otherwise, and the others stand; every punch not yet reported is VOIDED with cause SUPPLY. Every
line is IDLE with its queue empty, each that held an instance making its missed notice in line order, and no free send is pending; a stop
that nothing else holds is complete; nothing else moves. A sample at 19.0 V or above, or a first or second one below, makes no event
(R146, R151, R152, R157, R171, R192). SUPPLY_NORMAL at the hundredth sample in a row above 20.5 V: the supply is NORMAL and each IDLE channel
in ascending order tests R130; with no punch waiting and no free request pending nothing else moves but the alarm, whose stretch timer starts
when no other condition holds, and with one punch waiting its IDLE channel starts the hit; a sample at 20.5 V or below begins the run again
(R130, R131, R147, R151, R153). The order of the lines' notices at LOW and that of the channels' tests at NORMAL are the model's choice (log
entries 56 and 67). -/
def Obligations.SupplyEventsReachEveryBlock : Prop :=
  ∀ (v : Nat) (s : State), s.betweenEvents →
    (s.supply.state = .normal →
      (v < 190 → s.supply.lowRun = 2 → s.noneWaitsForRoom →
        let stops := s.control.runState = .stopping ∧ (∀ g, s.queue g = []) ∧ s.orders.walking = false
        (stops → s.control.runRequest = false) →
        let door (d : Door) : Door :=
          let d : Door := { d with freeEnd := none, freePending := false }
          let idle (d : Door) : Door := { d with state := .idle, served := none, openTimer := none }
          match d.state with
          | .claim => idle d
          | .hit => idle d.measured
          | .hold | .free =>
            if d.contact = .opened then
              { d with state := .closing, served := none, openTimer := none, heldTimer := d.heldFrom s.time.osc }
            else idle d
          | .idle | .closing | .outOfService => d
        let line (l : Line) : Line :=
          { l with state := .idle, queue := [], pulsesDone := 0, granted := false, cut := false, releaseAt := none }
        let u : State := { s with
          supply := { s.supply with state := .low, lowRun := 0 }, arbiter := { holder := none, requests := [] },
          doors := s.doors.map door,
          engine := { s.engine with queues := s.engine.queues.map fun q => reportedQueue q (.voided .supply) },
          bells := { s.bells with lines := s.bells.lines.map line, freeSends := Vector.replicate 8 none } }
        let noticed : State := lineNos.foldl (fun u n => match (s.line n).queue with
          | [] => u
          | p :: ps => u.bellNoticeAt .supply (some n.val) p.entry (ps.length + 1)) u
        ∃ t, exec (.supplyLow [v]) s = .next t ∧ t.control.alarm = true ∧ t.control.stretch = none ∧ t.driveLaw ∧
          EndsAs { noticed with
            journal := { noticed.journal with roomGiven := false },
            control := if stops then { noticed.control with runState := .stopped } else noticed.control } t) ∧
      (v < 190 → s.supply.lowRun < 2 → ∃ t, exec (.supplyLow [v]) s = .next t ∧
        EndsAs { s with supply := { s.supply with lowRun := s.supply.lowRun + 1 } } t) ∧
      (190 ≤ v → ∃ t, exec (.supplyLow [v]) s = .next t ∧ EndsAs { s with supply := { s.supply with lowRun := 0 } } t)) ∧
    (s.supply.state = .low →
      (205 < v → s.supply.recoveryRun = 99 →
        let u : State := { s with supply := { s.supply with state := .normal, recoveryRun := 0 } }
        (∃ t, exec (.supplyNormal [v]) s = .next t ∧ EndsAs (gates.foldl (fun u g => u.beginCycle g) u) t) ∧
        ((∀ g, s.queue g = [] ∧ (s.door g).freePending = false) → ∃ t, exec (.supplyNormal [v]) s = .next t ∧ EndsAs u t ∧
          ((∀ g, (s.door g).alarming = false) → t.control.alarm = true ∧ t.control.stretch = some s.time.osc)) ∧
        (∀ g p, s.queue g = [p] → p.report = none → (∀ h, h ≠ g → s.queue h = []) → (∀ h, (s.door h).freePending = false) →
          (s.door g).state = .idle → (s.door g).equipped = true → s.arbiter = { holder := none, requests := [] } →
          s.control.runState ≠ .faulted → ∃ t, exec (.supplyNormal [v]) s = .next t ∧
            EndsAs ((u.withArbiter { holder := some (.door g), requests := [] }).setDoor g { s.door g with
              state := .hit, cycle := .punch, served := some p.worker, overRun := 0,
              movement := { Movement.cleared with openAtStart := (s.door g).contact == .opened } }) t)) ∧
      (205 < v → s.supply.recoveryRun < 99 → ∃ t, exec (.supplyNormal [v]) s = .next t ∧
        EndsAs { s with supply := { s.supply with recoveryRun := s.supply.recoveryRun + 1 } } t) ∧
      (v ≤ 205 → ∃ t, exec (.supplyNormal [v]) s = .next t ∧ EndsAs { s with supply := { s.supply with recoveryRun := 0 } } t))

/-! ### Bells -/

/-- A pattern of a bell line. BELL_CLAIM at a half second, from DELAY with the due time reached or from GAP with the gap ended: the line is in
CLAIM; with the slot free it is granted at once, else it joins the tail of the list; while the supply is LOW it is IDLE with its queue
empty and a notice made. PULSE_START at a half second, granted: ON for the longer of the head's on time and the minimum on, one more pulse
done, the release due 150 ms on. BELL_SLOT_RELEASE then frees the slot, or grants it to the head of the list in NORMAL supply: a door in CLAIM
starts its hit, a line in CLAIM is granted, and the others wait on (R131, R155). PULSE_END: GAP with more pulses to come and cut
clear, else SETTLE for 1 s. SETTLE_END: the head leaves, and with no other the line is IDLE,
which in STOPPING ends the stop where nothing else holds it; PULSE_START, PULSE_END and the release run on in STOPPING (R172, R191, R192)
(R154–R156, R161, R165–R167, R171). -/
def Obligations.BellLineRunsItsPattern : Prop :=
  ∀ (n : LineNo) (head : Pattern) (rest : List Pattern) (s : State),
    let l := s.line n
    s.betweenEvents → (s.control.runState = .running ∨ s.control.runState = .stopping) → l.queue = head :: rest →
    (s.time.atHalfSecond = true → l.releaseAt = none →
      (l.state = .delay ∧ l.headDue s.time.absTick = true ∨ l.state = .gap ∧ l.phaseEnds ≤ s.time.osc) →
      (s.supply.state = .normal → s.arbiter = { holder := none, requests := [] } → ∃ t, exec (.bellClaim n) s = .next t ∧
        EndsAs (({ s with arbiter := { holder := some (.line n), requests := [] } } : State).setLine n { l with
          state := .claim, granted := true }) t) ∧
      (∀ c, s.supply.state = .normal → s.arbiter.holder = some c → c ≠ .line n → Claimant.line n ∉ s.arbiter.requests →
        ∃ t, exec (.bellClaim n) s = .next t ∧
          EndsAs (({ s with arbiter := { s.arbiter with requests := s.arbiter.requests ++ [Claimant.line n] } } : State).setLine n
            { l with state := .claim, granted := false }) t) ∧
      (s.supply.state = .low → s.arbiter = { holder := none, requests := [] } → s.noticeRoom 1 → ∃ t, exec (.bellClaim n) s = .next t ∧
        EndsAs ((s.setLine n { l with state := .idle, queue := [], pulsesDone := 0, granted := false, cut := false }).bellNoticeAt
          .supply (some n.val) head.entry (rest.length + 1)).afterStop t)) ∧
    (l.state = .claim → l.granted = true → s.time.atHalfSecond = true → ∃ t, exec (.pulseStart n) s = .next t ∧
      EndsAs (s.setLine n { l with state := .on, pulsesDone := l.pulsesDone + 1, releaseAt := some (s.time.osc + 3),
                                   phaseEnds := s.time.osc + 2 * max head.onTime l.minOn }) t) ∧
    (∀ due, l.releaseAt = some due → due ≤ s.time.osc → s.arbiter = { holder := some (.line n), requests := [] } →
      ∃ t, exec (.bellSlotRelease n) s = .next t ∧
        EndsAs (({ s with arbiter := { holder := none, requests := [] } } : State).setLine n { l with releaseAt := none }) t) ∧
    (∀ due c cs, l.releaseAt = some due → due ≤ s.time.osc → s.supply.state = .normal →
      s.arbiter = { holder := some (.line n), requests := c :: cs } →
      let passed : State := ({ s with arbiter := { holder := some c, requests := cs } } : State).setLine n { l with releaseAt := none }
      (∀ g, c = .door g → (s.door g).state = .claim → ∃ t, exec (.bellSlotRelease n) s = .next t ∧
        EndsAs (passed.setDoor g { s.door g with
          state := .hit, overRun := 0,
          movement := { Movement.cleared with openAtStart := (s.door g).contact == .opened } }) t) ∧
      ∀ k, c = .line k → k ≠ n → (s.line k).state = .claim → ∃ t, exec (.bellSlotRelease n) s = .next t ∧
        EndsAs (passed.setLine k { s.line k with granted := true }) t) ∧
    (l.state = .on → l.phaseEnds ≤ s.time.osc → l.pulsesDone < head.pulses → l.cut = false →
      ∃ t, exec (.pulseEnd n) s = .next t ∧
        EndsAs (s.setLine n { l with state := .gap, phaseEnds := s.time.osc + 2 * head.gap }) t) ∧
    (l.state = .on → l.phaseEnds ≤ s.time.osc → (head.pulses ≤ l.pulsesDone ∨ l.cut = true) →
      ∃ t, exec (.pulseEnd n) s = .next t ∧ EndsAs (s.setLine n { l with state := .settle, phaseEnds := s.time.osc + 20 }) t) ∧
    (l.state = .settle → l.phaseEnds ≤ s.time.osc → ∃ t, exec (.settleEnd n) s = .next t ∧
      EndsAs (s.setLine n { l with queue := rest, state := if rest = [] then .idle else .delay, pulsesDone := 0, granted := false,
                                   cut := false }).afterStop t)

/-! ### The journal -/

/-- RELEASE_WALK of an undamaged journal: the taken cell's value names the records to release, none if it is 0 or the predecessor of the
oldest, and a value that is not a sequence of the unreleased records latches RELEASE_INVALID and releases nothing. The walk takes each header
at the read position in turn: a filler is released, the read position at the start of the region and U down by 4; a record is released, the
read position, U, the unreleased records and the oldest sequence moving past it. It ends when U is 0, at the record after the last to be
released, or at a header that fails its check: what it released stays released, the journal is damaged and JOURNAL_DAMAGED latched.
A damaged journal makes no walk. DAMAGE_RECHECK clears damage when the header passes, and changes nothing when it fails.
JOURNAL_HOLD_EXPIRY ends JOURNAL_HOLD one second after the last refusal (R179–R181, R183). That a header which passes its check and names more
than the used words leaves U at 0 is the model's choice (log entry 64). -/
def Obligations.JournalTimersAct : Prop :=
  ∀ (r : Region) (s : State), s.betweenEvents → s.journal.region = some r →
    let j := s.journal
    let taken := (s.load takenCell).toNat
    (∀ xs : List HeaderCheck, j.damaged = false → s.noneWaitsForRoom →
      let e := xs.foldl (Journal.pass r) j
      s.walkPasses r xs →
      (s.walkEnds r xs → ∃ t, exec .releaseWalk s = .next t ∧ EndsAs { s with journal := e } t) ∧
      (0 < e.used → s.headerOf r e = .fails → ∃ t, exec .releaseWalk s = .next t ∧
        EndsAs (({ s with journal := { e with damaged := true } } : State).latch Latched.setJournalDamaged) t)) ∧
    (j.damaged = false → taken ≠ 0 → taken ≠ seqPred j.oldestSeq → j.unreleased ≤ seqDistance j.oldestSeq taken →
      ∃ t, exec .releaseWalk s = .next t ∧ EndsAs (s.latch Latched.setReleaseInvalid) t) ∧
    (j.damaged = true → s.headerOf r j ≠ .fails → ∃ t, exec .damageRecheck s = .next t ∧
      EndsAs { s with journal := { j with damaged := false } } t) ∧
    (j.damaged = true → ∃ t, exec .releaseWalk s = .next t ∧ EndsAs s t) ∧
    (j.damaged = true → s.headerOf r j = .fails → exec .damageRecheck s = .next s) ∧
    (∀ start, j.holdTimer = some start → start + 20 ≤ s.time.osc → ∃ t, exec .journalHoldExpiry s = .next t ∧
      t.holdActive = false ∧ EndsAs { s with journal := { j with holdTimer := none } } t)
end

