-- ==== Sys2Proof/Laws/Memory.lean ====
section
/-! SUPPORT. Common memory: every operation keeps the canonical form, and a byte reads back as written. -/

namespace Sys2Proof.Machine

/-- The first address of a memory in canonical form lies below every other, so no byte below it is listed. -/
theorem readByte_below {a x : Nat} {b : Byte} {m : Memory} (h : Memory.wf ((a, b) :: m) = true) (hx : x < a) :
    readByte m x = blankByte := by
  induction m generalizing a b with
  | nil => rfl
  | cons c m ih =>
    obtain ⟨a', b'⟩ := c
    simp only [Memory.wf, Bool.and_eq_true, decide_eq_true_eq] at h
    have hne : ¬ x = a' := by omega
    simp only [readByte, if_neg hne]
    exact ih h.2 (by omega)

/-- The rest of a memory in canonical form is in canonical form. -/
theorem Memory.wf_tail {c : Nat × Byte} {m : Memory} (h : Memory.wf (c :: m) = true) : Memory.wf m = true := by
  obtain ⟨a, b⟩ := c
  cases m with
  | nil => rfl
  | cons d m => obtain ⟨a', b'⟩ := d; simp only [Memory.wf, Bool.and_eq_true] at h; exact h.2

/-- An address no lower than every listed one before it, put in front of a memory whose first address is higher. -/
theorem Memory.wf_cons {a : Nat} {b : Byte} {m : Memory} (hb : b ≠ blankByte) (hm : Memory.wf m = true)
    (ha : ∀ c ∈ m.head?, a < c.1) : Memory.wf ((a, b) :: m) = true := by
  cases m with
  | nil => simpa [Memory.wf] using hb
  | cons c m => obtain ⟨a', b'⟩ := c; simpa [Memory.wf, hb, hm] using ha

/-- The first address of a memory after a write is no lower than both the one before and the one written. -/
theorem head_writeByte {a x : Nat} {b v : Byte} {m : Memory} (h : Memory.wf ((a, b) :: m) = true) (hx : a < x) :
    ∀ c ∈ (writeByte m x v).head?, a < c.1 := by
  cases m with
  | nil => simp only [writeByte]; split <;> simp [hx]
  | cons c m =>
    obtain ⟨a', b'⟩ := c
    have ha : a < a' := by simp only [Memory.wf, Bool.and_eq_true, decide_eq_true_eq] at h; exact h.1.1
    have hm : ∀ c ∈ m.head?, a < c.1 := by
      cases m with
      | nil => simp
      | cons d m =>
        obtain ⟨a'', b''⟩ := d
        simp only [Memory.wf, Bool.and_eq_true, decide_eq_true_eq] at h
        simp only [List.head?_cons, Option.mem_def, Option.some.injEq, forall_eq']
        omega
    simp only [writeByte]
    split
    · split <;> simp <;> omega
    · split
      · split
        · exact hm
        · simp [hx]
      · simp [ha]

/-- Writing one byte keeps the canonical form. -/
theorem wf_writeByte (m : Memory) (x : Nat) (v : Byte) (h : Memory.wf m = true) : Memory.wf (writeByte m x v) = true := by
  induction m with
  | nil => simp only [writeByte]; split <;> simp_all [Memory.wf]
  | cons c m ih =>
    obtain ⟨a, b⟩ := c
    have hb : b ≠ blankByte := by
      cases m with
      | nil => simpa [Memory.wf] using h
      | cons d m => obtain ⟨a', b'⟩ := d; simp only [Memory.wf, Bool.and_eq_true, bne_iff_ne] at h; exact h.1.2
    simp only [writeByte]
    split
    · split
      · exact h
      · rename_i hv; exact Memory.wf_cons hv h (by simpa)
    · split
      · split
        · exact Memory.wf_tail h
        · rename_i hx hv
          subst hx
          refine Memory.wf_cons hv (Memory.wf_tail h) ?_
          cases m with
          | nil => simp
          | cons d m => obtain ⟨a', b'⟩ := d; simp only [Memory.wf, Bool.and_eq_true, decide_eq_true_eq] at h; simpa using h.1.1
      · exact Memory.wf_cons hb (ih (Memory.wf_tail h)) (head_writeByte h (by omega))

/-- A byte reads back as written, and every other byte as before. -/
theorem readByte_writeByte (m : Memory) (x : Nat) (v : Byte) (y : Nat) (h : Memory.wf m = true) :
    readByte (writeByte m x v) y = if y = x then v else readByte m y := by
  induction m with
  | nil => simp only [writeByte]; split <;> simp_all [readByte]
  | cons c m ih =>
    obtain ⟨a, b⟩ := c
    have below : ∀ z, z < a → readByte m z = blankByte := fun z hz => readByte_below h hz
    simp only [writeByte]
    split
    · rename_i hxa
      split
      · rename_i hv
        by_cases hy : y = x
        · subst hy; simp [readByte, below y hxa, hv, Nat.ne_of_lt hxa]
        · simp [hy]
      · by_cases hy : y = x <;> simp [readByte, hy]
    · split
      · rename_i hxa
        subst hxa
        split
        · rename_i hv
          by_cases hy : y = x
          · subst hy
            have : readByte m y = blankByte := by
              cases m with
              | nil => rfl
              | cons d m =>
                obtain ⟨a', b'⟩ := d
                simp only [Memory.wf, Bool.and_eq_true, decide_eq_true_eq] at h
                have hne : ¬ y = a' := by omega
                simp only [readByte, if_neg hne]
                exact readByte_below (a := a') h.2 (by omega)
            simp [this, hv]
          · simp [readByte, hy]
        · by_cases hy : y = x <;> simp [readByte, hy]
      · by_cases hya : y = a
        · subst hya; rename_i h1 h2; simp [readByte, Ne.symm h2]
        · simp [readByte, hya, ih (Memory.wf_tail h)]

/-- Writing one word keeps the canonical form. -/
theorem wf_writeWord (m : Memory) (a : Nat) (w : Word) (h : Memory.wf m = true) : Memory.wf (writeWord m a w) = true :=
  wf_writeByte _ _ _ (wf_writeByte _ _ _ (wf_writeByte _ _ _ (wf_writeByte _ _ _ h)))

/-- Writing words keeps the canonical form. -/
theorem wf_writeWords (ws : List Word) (m : Memory) (a : Nat) (h : Memory.wf m = true) :
    Memory.wf (writeWords m a ws) = true := by
  induction ws generalizing m a with
  | nil => exact h
  | cons w ws ih => exact ih _ _ (wf_writeWord m a w h)

/-- Writing the words that changed keeps the canonical form. -/
theorem wf_writeChanged (old new : List Word) (m : Memory) (a : Nat) (h : Memory.wf m = true) :
    Memory.wf (writeChanged m a old new) = true := by
  induction old generalizing m a new with
  | nil => simpa [writeChanged] using h
  | cons o os ih =>
    cases new with
    | nil => simpa [writeChanged] using h
    | cons w ws =>
      simp only [writeChanged]
      split
      · exact ih _ _ _ h
      · exact ih _ _ _ (wf_writeWord m a w h)

/-- The memory after reset is in the canonical form. -/
theorem wf_reset : Memory.wf State.reset.mem = true := rfl

end Sys2Proof.Machine
end

