-- ==== Sys2Proof/Laws/State.lean ====
section
/-! SUPPORT. One lemma for each field of the state and each update of it, and the accessors of the indexed parts. -/

namespace Sys2Proof.Machine

variable (s : State)

/-! ### withTime -/

@[simp] theorem State.withTime_time (x : TimeBase) : (s.withTime x).time = x := rfl
@[simp] theorem State.withTime_readers (x : TimeBase) : (s.withTime x).readers = s.readers := rfl
@[simp] theorem State.withTime_links (x : TimeBase) : (s.withTime x).links = s.links := rfl
@[simp] theorem State.withTime_engine (x : TimeBase) : (s.withTime x).engine = s.engine := rfl
@[simp] theorem State.withTime_doors (x : TimeBase) : (s.withTime x).doors = s.doors := rfl
@[simp] theorem State.withTime_supply (x : TimeBase) : (s.withTime x).supply = s.supply := rfl
@[simp] theorem State.withTime_arbiter (x : TimeBase) : (s.withTime x).arbiter = s.arbiter := rfl
@[simp] theorem State.withTime_bells (x : TimeBase) : (s.withTime x).bells = s.bells := rfl
@[simp] theorem State.withTime_journal (x : TimeBase) : (s.withTime x).journal = s.journal := rfl
@[simp] theorem State.withTime_orders (x : TimeBase) : (s.withTime x).orders = s.orders := rfl
@[simp] theorem State.withTime_control (x : TimeBase) : (s.withTime x).control = s.control := rfl
@[simp] theorem State.withTime_mem (x : TimeBase) : (s.withTime x).mem = s.mem := rfl
@[simp] theorem State.withTime_freeUsed (x : TimeBase) : (s.withTime x).freeUsed = s.freeUsed := rfl
@[simp] theorem State.withTime_pending (x : TimeBase) : (s.withTime x).pending = s.pending := rfl
@[simp] theorem State.withTime_reader (x : TimeBase) (i : Fin 16) : (s.withTime x).reader i = s.reader i := rfl
@[simp] theorem State.withTime_link (x : TimeBase) (i : LinkNo) : (s.withTime x).link i = s.link i := rfl
@[simp] theorem State.withTime_door (x : TimeBase) (i : Gate) : (s.withTime x).door i = s.door i := rfl
@[simp] theorem State.withTime_queue (x : TimeBase) (i : Gate) : (s.withTime x).queue i = s.queue i := rfl
@[simp] theorem State.withTime_line (x : TimeBase) (i : LineNo) : (s.withTime x).line i = s.line i := rfl
@[simp] theorem State.withTime_freeSend (x : TimeBase) (i : Gate) : (s.withTime x).freeSend i = s.freeSend i := rfl

/-! ### withEngine -/

@[simp] theorem State.withEngine_time (x : Engine) : (s.withEngine x).time = s.time := rfl
@[simp] theorem State.withEngine_readers (x : Engine) : (s.withEngine x).readers = s.readers := rfl
@[simp] theorem State.withEngine_links (x : Engine) : (s.withEngine x).links = s.links := rfl
@[simp] theorem State.withEngine_engine (x : Engine) : (s.withEngine x).engine = x := rfl
@[simp] theorem State.withEngine_doors (x : Engine) : (s.withEngine x).doors = s.doors := rfl
@[simp] theorem State.withEngine_supply (x : Engine) : (s.withEngine x).supply = s.supply := rfl
@[simp] theorem State.withEngine_arbiter (x : Engine) : (s.withEngine x).arbiter = s.arbiter := rfl
@[simp] theorem State.withEngine_bells (x : Engine) : (s.withEngine x).bells = s.bells := rfl
@[simp] theorem State.withEngine_journal (x : Engine) : (s.withEngine x).journal = s.journal := rfl
@[simp] theorem State.withEngine_orders (x : Engine) : (s.withEngine x).orders = s.orders := rfl
@[simp] theorem State.withEngine_control (x : Engine) : (s.withEngine x).control = s.control := rfl
@[simp] theorem State.withEngine_mem (x : Engine) : (s.withEngine x).mem = s.mem := rfl
@[simp] theorem State.withEngine_freeUsed (x : Engine) : (s.withEngine x).freeUsed = s.freeUsed := rfl
@[simp] theorem State.withEngine_pending (x : Engine) : (s.withEngine x).pending = s.pending := rfl
@[simp] theorem State.withEngine_reader (x : Engine) (i : Fin 16) : (s.withEngine x).reader i = s.reader i := rfl
@[simp] theorem State.withEngine_link (x : Engine) (i : LinkNo) : (s.withEngine x).link i = s.link i := rfl
@[simp] theorem State.withEngine_door (x : Engine) (i : Gate) : (s.withEngine x).door i = s.door i := rfl
@[simp] theorem State.withEngine_line (x : Engine) (i : LineNo) : (s.withEngine x).line i = s.line i := rfl
@[simp] theorem State.withEngine_freeSend (x : Engine) (i : Gate) : (s.withEngine x).freeSend i = s.freeSend i := rfl

/-! ### withArbiter -/

@[simp] theorem State.withArbiter_time (x : Arbiter) : (s.withArbiter x).time = s.time := rfl
@[simp] theorem State.withArbiter_readers (x : Arbiter) : (s.withArbiter x).readers = s.readers := rfl
@[simp] theorem State.withArbiter_links (x : Arbiter) : (s.withArbiter x).links = s.links := rfl
@[simp] theorem State.withArbiter_engine (x : Arbiter) : (s.withArbiter x).engine = s.engine := rfl
@[simp] theorem State.withArbiter_doors (x : Arbiter) : (s.withArbiter x).doors = s.doors := rfl
@[simp] theorem State.withArbiter_supply (x : Arbiter) : (s.withArbiter x).supply = s.supply := rfl
@[simp] theorem State.withArbiter_arbiter (x : Arbiter) : (s.withArbiter x).arbiter = x := rfl
@[simp] theorem State.withArbiter_bells (x : Arbiter) : (s.withArbiter x).bells = s.bells := rfl
@[simp] theorem State.withArbiter_journal (x : Arbiter) : (s.withArbiter x).journal = s.journal := rfl
@[simp] theorem State.withArbiter_orders (x : Arbiter) : (s.withArbiter x).orders = s.orders := rfl
@[simp] theorem State.withArbiter_control (x : Arbiter) : (s.withArbiter x).control = s.control := rfl
@[simp] theorem State.withArbiter_mem (x : Arbiter) : (s.withArbiter x).mem = s.mem := rfl
@[simp] theorem State.withArbiter_freeUsed (x : Arbiter) : (s.withArbiter x).freeUsed = s.freeUsed := rfl
@[simp] theorem State.withArbiter_pending (x : Arbiter) : (s.withArbiter x).pending = s.pending := rfl
@[simp] theorem State.withArbiter_reader (x : Arbiter) (i : Fin 16) : (s.withArbiter x).reader i = s.reader i := rfl
@[simp] theorem State.withArbiter_link (x : Arbiter) (i : LinkNo) : (s.withArbiter x).link i = s.link i := rfl
@[simp] theorem State.withArbiter_door (x : Arbiter) (i : Gate) : (s.withArbiter x).door i = s.door i := rfl
@[simp] theorem State.withArbiter_queue (x : Arbiter) (i : Gate) : (s.withArbiter x).queue i = s.queue i := rfl
@[simp] theorem State.withArbiter_line (x : Arbiter) (i : LineNo) : (s.withArbiter x).line i = s.line i := rfl
@[simp] theorem State.withArbiter_freeSend (x : Arbiter) (i : Gate) : (s.withArbiter x).freeSend i = s.freeSend i := rfl

/-! ### withSupply -/

@[simp] theorem State.withSupply_time (x : Supply) : (s.withSupply x).time = s.time := rfl
@[simp] theorem State.withSupply_readers (x : Supply) : (s.withSupply x).readers = s.readers := rfl
@[simp] theorem State.withSupply_links (x : Supply) : (s.withSupply x).links = s.links := rfl
@[simp] theorem State.withSupply_engine (x : Supply) : (s.withSupply x).engine = s.engine := rfl
@[simp] theorem State.withSupply_doors (x : Supply) : (s.withSupply x).doors = s.doors := rfl
@[simp] theorem State.withSupply_supply (x : Supply) : (s.withSupply x).supply = x := rfl
@[simp] theorem State.withSupply_arbiter (x : Supply) : (s.withSupply x).arbiter = s.arbiter := rfl
@[simp] theorem State.withSupply_bells (x : Supply) : (s.withSupply x).bells = s.bells := rfl
@[simp] theorem State.withSupply_journal (x : Supply) : (s.withSupply x).journal = s.journal := rfl
@[simp] theorem State.withSupply_orders (x : Supply) : (s.withSupply x).orders = s.orders := rfl
@[simp] theorem State.withSupply_control (x : Supply) : (s.withSupply x).control = s.control := rfl
@[simp] theorem State.withSupply_mem (x : Supply) : (s.withSupply x).mem = s.mem := rfl
@[simp] theorem State.withSupply_freeUsed (x : Supply) : (s.withSupply x).freeUsed = s.freeUsed := rfl
@[simp] theorem State.withSupply_pending (x : Supply) : (s.withSupply x).pending = s.pending := rfl
@[simp] theorem State.withSupply_reader (x : Supply) (i : Fin 16) : (s.withSupply x).reader i = s.reader i := rfl
@[simp] theorem State.withSupply_link (x : Supply) (i : LinkNo) : (s.withSupply x).link i = s.link i := rfl
@[simp] theorem State.withSupply_door (x : Supply) (i : Gate) : (s.withSupply x).door i = s.door i := rfl
@[simp] theorem State.withSupply_queue (x : Supply) (i : Gate) : (s.withSupply x).queue i = s.queue i := rfl
@[simp] theorem State.withSupply_line (x : Supply) (i : LineNo) : (s.withSupply x).line i = s.line i := rfl
@[simp] theorem State.withSupply_freeSend (x : Supply) (i : Gate) : (s.withSupply x).freeSend i = s.freeSend i := rfl

/-! ### withBells -/

@[simp] theorem State.withBells_time (x : Bells) : (s.withBells x).time = s.time := rfl
@[simp] theorem State.withBells_readers (x : Bells) : (s.withBells x).readers = s.readers := rfl
@[simp] theorem State.withBells_links (x : Bells) : (s.withBells x).links = s.links := rfl
@[simp] theorem State.withBells_engine (x : Bells) : (s.withBells x).engine = s.engine := rfl
@[simp] theorem State.withBells_doors (x : Bells) : (s.withBells x).doors = s.doors := rfl
@[simp] theorem State.withBells_supply (x : Bells) : (s.withBells x).supply = s.supply := rfl
@[simp] theorem State.withBells_arbiter (x : Bells) : (s.withBells x).arbiter = s.arbiter := rfl
@[simp] theorem State.withBells_bells (x : Bells) : (s.withBells x).bells = x := rfl
@[simp] theorem State.withBells_journal (x : Bells) : (s.withBells x).journal = s.journal := rfl
@[simp] theorem State.withBells_orders (x : Bells) : (s.withBells x).orders = s.orders := rfl
@[simp] theorem State.withBells_control (x : Bells) : (s.withBells x).control = s.control := rfl
@[simp] theorem State.withBells_mem (x : Bells) : (s.withBells x).mem = s.mem := rfl
@[simp] theorem State.withBells_freeUsed (x : Bells) : (s.withBells x).freeUsed = s.freeUsed := rfl
@[simp] theorem State.withBells_pending (x : Bells) : (s.withBells x).pending = s.pending := rfl
@[simp] theorem State.withBells_reader (x : Bells) (i : Fin 16) : (s.withBells x).reader i = s.reader i := rfl
@[simp] theorem State.withBells_link (x : Bells) (i : LinkNo) : (s.withBells x).link i = s.link i := rfl
@[simp] theorem State.withBells_door (x : Bells) (i : Gate) : (s.withBells x).door i = s.door i := rfl
@[simp] theorem State.withBells_queue (x : Bells) (i : Gate) : (s.withBells x).queue i = s.queue i := rfl

/-! ### withJournal -/

@[simp] theorem State.withJournal_time (x : Journal) : (s.withJournal x).time = s.time := rfl
@[simp] theorem State.withJournal_readers (x : Journal) : (s.withJournal x).readers = s.readers := rfl
@[simp] theorem State.withJournal_links (x : Journal) : (s.withJournal x).links = s.links := rfl
@[simp] theorem State.withJournal_engine (x : Journal) : (s.withJournal x).engine = s.engine := rfl
@[simp] theorem State.withJournal_doors (x : Journal) : (s.withJournal x).doors = s.doors := rfl
@[simp] theorem State.withJournal_supply (x : Journal) : (s.withJournal x).supply = s.supply := rfl
@[simp] theorem State.withJournal_arbiter (x : Journal) : (s.withJournal x).arbiter = s.arbiter := rfl
@[simp] theorem State.withJournal_bells (x : Journal) : (s.withJournal x).bells = s.bells := rfl
@[simp] theorem State.withJournal_journal (x : Journal) : (s.withJournal x).journal = x := rfl
@[simp] theorem State.withJournal_orders (x : Journal) : (s.withJournal x).orders = s.orders := rfl
@[simp] theorem State.withJournal_control (x : Journal) : (s.withJournal x).control = s.control := rfl
@[simp] theorem State.withJournal_mem (x : Journal) : (s.withJournal x).mem = s.mem := rfl
@[simp] theorem State.withJournal_freeUsed (x : Journal) : (s.withJournal x).freeUsed = s.freeUsed := rfl
@[simp] theorem State.withJournal_pending (x : Journal) : (s.withJournal x).pending = s.pending := rfl
@[simp] theorem State.withJournal_reader (x : Journal) (i : Fin 16) : (s.withJournal x).reader i = s.reader i := rfl
@[simp] theorem State.withJournal_link (x : Journal) (i : LinkNo) : (s.withJournal x).link i = s.link i := rfl
@[simp] theorem State.withJournal_door (x : Journal) (i : Gate) : (s.withJournal x).door i = s.door i := rfl
@[simp] theorem State.withJournal_queue (x : Journal) (i : Gate) : (s.withJournal x).queue i = s.queue i := rfl
@[simp] theorem State.withJournal_line (x : Journal) (i : LineNo) : (s.withJournal x).line i = s.line i := rfl
@[simp] theorem State.withJournal_freeSend (x : Journal) (i : Gate) : (s.withJournal x).freeSend i = s.freeSend i := rfl

/-! ### withOrders -/

@[simp] theorem State.withOrders_time (x : OrderUnit) : (s.withOrders x).time = s.time := rfl
@[simp] theorem State.withOrders_readers (x : OrderUnit) : (s.withOrders x).readers = s.readers := rfl
@[simp] theorem State.withOrders_links (x : OrderUnit) : (s.withOrders x).links = s.links := rfl
@[simp] theorem State.withOrders_engine (x : OrderUnit) : (s.withOrders x).engine = s.engine := rfl
@[simp] theorem State.withOrders_doors (x : OrderUnit) : (s.withOrders x).doors = s.doors := rfl
@[simp] theorem State.withOrders_supply (x : OrderUnit) : (s.withOrders x).supply = s.supply := rfl
@[simp] theorem State.withOrders_arbiter (x : OrderUnit) : (s.withOrders x).arbiter = s.arbiter := rfl
@[simp] theorem State.withOrders_bells (x : OrderUnit) : (s.withOrders x).bells = s.bells := rfl
@[simp] theorem State.withOrders_journal (x : OrderUnit) : (s.withOrders x).journal = s.journal := rfl
@[simp] theorem State.withOrders_orders (x : OrderUnit) : (s.withOrders x).orders = x := rfl
@[simp] theorem State.withOrders_control (x : OrderUnit) : (s.withOrders x).control = s.control := rfl
@[simp] theorem State.withOrders_mem (x : OrderUnit) : (s.withOrders x).mem = s.mem := rfl
@[simp] theorem State.withOrders_freeUsed (x : OrderUnit) : (s.withOrders x).freeUsed = s.freeUsed := rfl
@[simp] theorem State.withOrders_pending (x : OrderUnit) : (s.withOrders x).pending = s.pending := rfl
@[simp] theorem State.withOrders_reader (x : OrderUnit) (i : Fin 16) : (s.withOrders x).reader i = s.reader i := rfl
@[simp] theorem State.withOrders_link (x : OrderUnit) (i : LinkNo) : (s.withOrders x).link i = s.link i := rfl
@[simp] theorem State.withOrders_door (x : OrderUnit) (i : Gate) : (s.withOrders x).door i = s.door i := rfl
@[simp] theorem State.withOrders_queue (x : OrderUnit) (i : Gate) : (s.withOrders x).queue i = s.queue i := rfl
@[simp] theorem State.withOrders_line (x : OrderUnit) (i : LineNo) : (s.withOrders x).line i = s.line i := rfl
@[simp] theorem State.withOrders_freeSend (x : OrderUnit) (i : Gate) : (s.withOrders x).freeSend i = s.freeSend i := rfl

/-! ### withControl -/

@[simp] theorem State.withControl_time (x : Control) : (s.withControl x).time = s.time := rfl
@[simp] theorem State.withControl_readers (x : Control) : (s.withControl x).readers = s.readers := rfl
@[simp] theorem State.withControl_links (x : Control) : (s.withControl x).links = s.links := rfl
@[simp] theorem State.withControl_engine (x : Control) : (s.withControl x).engine = s.engine := rfl
@[simp] theorem State.withControl_doors (x : Control) : (s.withControl x).doors = s.doors := rfl
@[simp] theorem State.withControl_supply (x : Control) : (s.withControl x).supply = s.supply := rfl
@[simp] theorem State.withControl_arbiter (x : Control) : (s.withControl x).arbiter = s.arbiter := rfl
@[simp] theorem State.withControl_bells (x : Control) : (s.withControl x).bells = s.bells := rfl
@[simp] theorem State.withControl_journal (x : Control) : (s.withControl x).journal = s.journal := rfl
@[simp] theorem State.withControl_orders (x : Control) : (s.withControl x).orders = s.orders := rfl
@[simp] theorem State.withControl_control (x : Control) : (s.withControl x).control = x := rfl
@[simp] theorem State.withControl_mem (x : Control) : (s.withControl x).mem = s.mem := rfl
@[simp] theorem State.withControl_freeUsed (x : Control) : (s.withControl x).freeUsed = s.freeUsed := rfl
@[simp] theorem State.withControl_pending (x : Control) : (s.withControl x).pending = s.pending := rfl
@[simp] theorem State.withControl_reader (x : Control) (i : Fin 16) : (s.withControl x).reader i = s.reader i := rfl
@[simp] theorem State.withControl_link (x : Control) (i : LinkNo) : (s.withControl x).link i = s.link i := rfl
@[simp] theorem State.withControl_door (x : Control) (i : Gate) : (s.withControl x).door i = s.door i := rfl
@[simp] theorem State.withControl_queue (x : Control) (i : Gate) : (s.withControl x).queue i = s.queue i := rfl
@[simp] theorem State.withControl_line (x : Control) (i : LineNo) : (s.withControl x).line i = s.line i := rfl
@[simp] theorem State.withControl_freeSend (x : Control) (i : Gate) : (s.withControl x).freeSend i = s.freeSend i := rfl

/-! ### withMem -/

@[simp] theorem State.withMem_time (x : Memory) : (s.withMem x).time = s.time := rfl
@[simp] theorem State.withMem_readers (x : Memory) : (s.withMem x).readers = s.readers := rfl
@[simp] theorem State.withMem_links (x : Memory) : (s.withMem x).links = s.links := rfl
@[simp] theorem State.withMem_engine (x : Memory) : (s.withMem x).engine = s.engine := rfl
@[simp] theorem State.withMem_doors (x : Memory) : (s.withMem x).doors = s.doors := rfl
@[simp] theorem State.withMem_supply (x : Memory) : (s.withMem x).supply = s.supply := rfl
@[simp] theorem State.withMem_arbiter (x : Memory) : (s.withMem x).arbiter = s.arbiter := rfl
@[simp] theorem State.withMem_bells (x : Memory) : (s.withMem x).bells = s.bells := rfl
@[simp] theorem State.withMem_journal (x : Memory) : (s.withMem x).journal = s.journal := rfl
@[simp] theorem State.withMem_orders (x : Memory) : (s.withMem x).orders = s.orders := rfl
@[simp] theorem State.withMem_control (x : Memory) : (s.withMem x).control = s.control := rfl
@[simp] theorem State.withMem_mem (x : Memory) : (s.withMem x).mem = x := rfl
@[simp] theorem State.withMem_freeUsed (x : Memory) : (s.withMem x).freeUsed = s.freeUsed := rfl
@[simp] theorem State.withMem_pending (x : Memory) : (s.withMem x).pending = s.pending := rfl
@[simp] theorem State.withMem_reader (x : Memory) (i : Fin 16) : (s.withMem x).reader i = s.reader i := rfl
@[simp] theorem State.withMem_link (x : Memory) (i : LinkNo) : (s.withMem x).link i = s.link i := rfl
@[simp] theorem State.withMem_door (x : Memory) (i : Gate) : (s.withMem x).door i = s.door i := rfl
@[simp] theorem State.withMem_queue (x : Memory) (i : Gate) : (s.withMem x).queue i = s.queue i := rfl
@[simp] theorem State.withMem_line (x : Memory) (i : LineNo) : (s.withMem x).line i = s.line i := rfl
@[simp] theorem State.withMem_freeSend (x : Memory) (i : Gate) : (s.withMem x).freeSend i = s.freeSend i := rfl

/-! ### setReader -/

@[simp] theorem State.setReader_time (p : Fin 16) (x : Reader) : (s.setReader p x).time = s.time := rfl
@[simp] theorem State.setReader_readers (p : Fin 16) (x : Reader) : (s.setReader p x).readers = s.readers.set p.val x := rfl
@[simp] theorem State.setReader_links (p : Fin 16) (x : Reader) : (s.setReader p x).links = s.links := rfl
@[simp] theorem State.setReader_engine (p : Fin 16) (x : Reader) : (s.setReader p x).engine = s.engine := rfl
@[simp] theorem State.setReader_doors (p : Fin 16) (x : Reader) : (s.setReader p x).doors = s.doors := rfl
@[simp] theorem State.setReader_supply (p : Fin 16) (x : Reader) : (s.setReader p x).supply = s.supply := rfl
@[simp] theorem State.setReader_arbiter (p : Fin 16) (x : Reader) : (s.setReader p x).arbiter = s.arbiter := rfl
@[simp] theorem State.setReader_bells (p : Fin 16) (x : Reader) : (s.setReader p x).bells = s.bells := rfl
@[simp] theorem State.setReader_journal (p : Fin 16) (x : Reader) : (s.setReader p x).journal = s.journal := rfl
@[simp] theorem State.setReader_orders (p : Fin 16) (x : Reader) : (s.setReader p x).orders = s.orders := rfl
@[simp] theorem State.setReader_control (p : Fin 16) (x : Reader) : (s.setReader p x).control = s.control := rfl
@[simp] theorem State.setReader_mem (p : Fin 16) (x : Reader) : (s.setReader p x).mem = s.mem := rfl
@[simp] theorem State.setReader_freeUsed (p : Fin 16) (x : Reader) : (s.setReader p x).freeUsed = s.freeUsed := rfl
@[simp] theorem State.setReader_pending (p : Fin 16) (x : Reader) : (s.setReader p x).pending = s.pending := rfl
@[simp] theorem State.setReader_link (p : Fin 16) (x : Reader) (i : LinkNo) : (s.setReader p x).link i = s.link i := rfl
@[simp] theorem State.setReader_door (p : Fin 16) (x : Reader) (i : Gate) : (s.setReader p x).door i = s.door i := rfl
@[simp] theorem State.setReader_queue (p : Fin 16) (x : Reader) (i : Gate) : (s.setReader p x).queue i = s.queue i := rfl
@[simp] theorem State.setReader_line (p : Fin 16) (x : Reader) (i : LineNo) : (s.setReader p x).line i = s.line i := rfl
@[simp] theorem State.setReader_freeSend (p : Fin 16) (x : Reader) (i : Gate) : (s.setReader p x).freeSend i = s.freeSend i := rfl

/-! ### setLink -/

@[simp] theorem State.setLink_time (k : LinkNo) (x : Link) : (s.setLink k x).time = s.time := rfl
@[simp] theorem State.setLink_readers (k : LinkNo) (x : Link) : (s.setLink k x).readers = s.readers := rfl
@[simp] theorem State.setLink_links (k : LinkNo) (x : Link) : (s.setLink k x).links = s.links.set k.val x := rfl
@[simp] theorem State.setLink_engine (k : LinkNo) (x : Link) : (s.setLink k x).engine = s.engine := rfl
@[simp] theorem State.setLink_doors (k : LinkNo) (x : Link) : (s.setLink k x).doors = s.doors := rfl
@[simp] theorem State.setLink_supply (k : LinkNo) (x : Link) : (s.setLink k x).supply = s.supply := rfl
@[simp] theorem State.setLink_arbiter (k : LinkNo) (x : Link) : (s.setLink k x).arbiter = s.arbiter := rfl
@[simp] theorem State.setLink_bells (k : LinkNo) (x : Link) : (s.setLink k x).bells = s.bells := rfl
@[simp] theorem State.setLink_journal (k : LinkNo) (x : Link) : (s.setLink k x).journal = s.journal := rfl
@[simp] theorem State.setLink_orders (k : LinkNo) (x : Link) : (s.setLink k x).orders = s.orders := rfl
@[simp] theorem State.setLink_control (k : LinkNo) (x : Link) : (s.setLink k x).control = s.control := rfl
@[simp] theorem State.setLink_mem (k : LinkNo) (x : Link) : (s.setLink k x).mem = s.mem := rfl
@[simp] theorem State.setLink_freeUsed (k : LinkNo) (x : Link) : (s.setLink k x).freeUsed = s.freeUsed := rfl
@[simp] theorem State.setLink_pending (k : LinkNo) (x : Link) : (s.setLink k x).pending = s.pending := rfl
@[simp] theorem State.setLink_reader (k : LinkNo) (x : Link) (i : Fin 16) : (s.setLink k x).reader i = s.reader i := rfl
@[simp] theorem State.setLink_door (k : LinkNo) (x : Link) (i : Gate) : (s.setLink k x).door i = s.door i := rfl
@[simp] theorem State.setLink_queue (k : LinkNo) (x : Link) (i : Gate) : (s.setLink k x).queue i = s.queue i := rfl
@[simp] theorem State.setLink_line (k : LinkNo) (x : Link) (i : LineNo) : (s.setLink k x).line i = s.line i := rfl
@[simp] theorem State.setLink_freeSend (k : LinkNo) (x : Link) (i : Gate) : (s.setLink k x).freeSend i = s.freeSend i := rfl

/-! ### setDoor -/

@[simp] theorem State.setDoor_time (g : Gate) (x : Door) : (s.setDoor g x).time = s.time := rfl
@[simp] theorem State.setDoor_readers (g : Gate) (x : Door) : (s.setDoor g x).readers = s.readers := rfl
@[simp] theorem State.setDoor_links (g : Gate) (x : Door) : (s.setDoor g x).links = s.links := rfl
@[simp] theorem State.setDoor_engine (g : Gate) (x : Door) : (s.setDoor g x).engine = s.engine := rfl
@[simp] theorem State.setDoor_doors (g : Gate) (x : Door) : (s.setDoor g x).doors = s.doors.set g.val x := rfl
@[simp] theorem State.setDoor_supply (g : Gate) (x : Door) : (s.setDoor g x).supply = s.supply := rfl
@[simp] theorem State.setDoor_arbiter (g : Gate) (x : Door) : (s.setDoor g x).arbiter = s.arbiter := rfl
@[simp] theorem State.setDoor_bells (g : Gate) (x : Door) : (s.setDoor g x).bells = s.bells := rfl
@[simp] theorem State.setDoor_journal (g : Gate) (x : Door) : (s.setDoor g x).journal = s.journal := rfl
@[simp] theorem State.setDoor_orders (g : Gate) (x : Door) : (s.setDoor g x).orders = s.orders := rfl
@[simp] theorem State.setDoor_control (g : Gate) (x : Door) : (s.setDoor g x).control = s.control := rfl
@[simp] theorem State.setDoor_mem (g : Gate) (x : Door) : (s.setDoor g x).mem = s.mem := rfl
@[simp] theorem State.setDoor_freeUsed (g : Gate) (x : Door) : (s.setDoor g x).freeUsed = s.freeUsed := rfl
@[simp] theorem State.setDoor_pending (g : Gate) (x : Door) : (s.setDoor g x).pending = s.pending := rfl
@[simp] theorem State.setDoor_reader (g : Gate) (x : Door) (i : Fin 16) : (s.setDoor g x).reader i = s.reader i := rfl
@[simp] theorem State.setDoor_link (g : Gate) (x : Door) (i : LinkNo) : (s.setDoor g x).link i = s.link i := rfl
@[simp] theorem State.setDoor_queue (g : Gate) (x : Door) (i : Gate) : (s.setDoor g x).queue i = s.queue i := rfl
@[simp] theorem State.setDoor_line (g : Gate) (x : Door) (i : LineNo) : (s.setDoor g x).line i = s.line i := rfl
@[simp] theorem State.setDoor_freeSend (g : Gate) (x : Door) (i : Gate) : (s.setDoor g x).freeSend i = s.freeSend i := rfl

/-! ### setQueue -/

@[simp] theorem State.setQueue_time (g : Gate) (x : List Punch) : (s.setQueue g x).time = s.time := rfl
@[simp] theorem State.setQueue_readers (g : Gate) (x : List Punch) : (s.setQueue g x).readers = s.readers := rfl
@[simp] theorem State.setQueue_links (g : Gate) (x : List Punch) : (s.setQueue g x).links = s.links := rfl
@[simp] theorem State.setQueue_engine (g : Gate) (x : List Punch) : (s.setQueue g x).engine = { s.engine with queues := s.engine.queues.set g.val x } := rfl
@[simp] theorem State.setQueue_doors (g : Gate) (x : List Punch) : (s.setQueue g x).doors = s.doors := rfl
@[simp] theorem State.setQueue_supply (g : Gate) (x : List Punch) : (s.setQueue g x).supply = s.supply := rfl
@[simp] theorem State.setQueue_arbiter (g : Gate) (x : List Punch) : (s.setQueue g x).arbiter = s.arbiter := rfl
@[simp] theorem State.setQueue_bells (g : Gate) (x : List Punch) : (s.setQueue g x).bells = s.bells := rfl
@[simp] theorem State.setQueue_journal (g : Gate) (x : List Punch) : (s.setQueue g x).journal = s.journal := rfl
@[simp] theorem State.setQueue_orders (g : Gate) (x : List Punch) : (s.setQueue g x).orders = s.orders := rfl
@[simp] theorem State.setQueue_control (g : Gate) (x : List Punch) : (s.setQueue g x).control = s.control := rfl
@[simp] theorem State.setQueue_mem (g : Gate) (x : List Punch) : (s.setQueue g x).mem = s.mem := rfl
@[simp] theorem State.setQueue_freeUsed (g : Gate) (x : List Punch) : (s.setQueue g x).freeUsed = s.freeUsed := rfl
@[simp] theorem State.setQueue_pending (g : Gate) (x : List Punch) : (s.setQueue g x).pending = s.pending := rfl
@[simp] theorem State.setQueue_reader (g : Gate) (x : List Punch) (i : Fin 16) : (s.setQueue g x).reader i = s.reader i := rfl
@[simp] theorem State.setQueue_link (g : Gate) (x : List Punch) (i : LinkNo) : (s.setQueue g x).link i = s.link i := rfl
@[simp] theorem State.setQueue_door (g : Gate) (x : List Punch) (i : Gate) : (s.setQueue g x).door i = s.door i := rfl
@[simp] theorem State.setQueue_line (g : Gate) (x : List Punch) (i : LineNo) : (s.setQueue g x).line i = s.line i := rfl
@[simp] theorem State.setQueue_freeSend (g : Gate) (x : List Punch) (i : Gate) : (s.setQueue g x).freeSend i = s.freeSend i := rfl

/-! ### setLine -/

@[simp] theorem State.setLine_time (n : LineNo) (x : Line) : (s.setLine n x).time = s.time := rfl
@[simp] theorem State.setLine_readers (n : LineNo) (x : Line) : (s.setLine n x).readers = s.readers := rfl
@[simp] theorem State.setLine_links (n : LineNo) (x : Line) : (s.setLine n x).links = s.links := rfl
@[simp] theorem State.setLine_engine (n : LineNo) (x : Line) : (s.setLine n x).engine = s.engine := rfl
@[simp] theorem State.setLine_doors (n : LineNo) (x : Line) : (s.setLine n x).doors = s.doors := rfl
@[simp] theorem State.setLine_supply (n : LineNo) (x : Line) : (s.setLine n x).supply = s.supply := rfl
@[simp] theorem State.setLine_arbiter (n : LineNo) (x : Line) : (s.setLine n x).arbiter = s.arbiter := rfl
@[simp] theorem State.setLine_bells (n : LineNo) (x : Line) : (s.setLine n x).bells = { s.bells with lines := s.bells.lines.set n.val x } := rfl
@[simp] theorem State.setLine_journal (n : LineNo) (x : Line) : (s.setLine n x).journal = s.journal := rfl
@[simp] theorem State.setLine_orders (n : LineNo) (x : Line) : (s.setLine n x).orders = s.orders := rfl
@[simp] theorem State.setLine_control (n : LineNo) (x : Line) : (s.setLine n x).control = s.control := rfl
@[simp] theorem State.setLine_mem (n : LineNo) (x : Line) : (s.setLine n x).mem = s.mem := rfl
@[simp] theorem State.setLine_freeUsed (n : LineNo) (x : Line) : (s.setLine n x).freeUsed = s.freeUsed := rfl
@[simp] theorem State.setLine_pending (n : LineNo) (x : Line) : (s.setLine n x).pending = s.pending := rfl
@[simp] theorem State.setLine_reader (n : LineNo) (x : Line) (i : Fin 16) : (s.setLine n x).reader i = s.reader i := rfl
@[simp] theorem State.setLine_link (n : LineNo) (x : Line) (i : LinkNo) : (s.setLine n x).link i = s.link i := rfl
@[simp] theorem State.setLine_door (n : LineNo) (x : Line) (i : Gate) : (s.setLine n x).door i = s.door i := rfl
@[simp] theorem State.setLine_queue (n : LineNo) (x : Line) (i : Gate) : (s.setLine n x).queue i = s.queue i := rfl

/-! ### setFreeSend -/

@[simp] theorem State.setFreeSend_time (g : Gate) (x : Option FreeSend) : (s.setFreeSend g x).time = s.time := rfl
@[simp] theorem State.setFreeSend_readers (g : Gate) (x : Option FreeSend) : (s.setFreeSend g x).readers = s.readers := rfl
@[simp] theorem State.setFreeSend_links (g : Gate) (x : Option FreeSend) : (s.setFreeSend g x).links = s.links := rfl
@[simp] theorem State.setFreeSend_engine (g : Gate) (x : Option FreeSend) : (s.setFreeSend g x).engine = s.engine := rfl
@[simp] theorem State.setFreeSend_doors (g : Gate) (x : Option FreeSend) : (s.setFreeSend g x).doors = s.doors := rfl
@[simp] theorem State.setFreeSend_supply (g : Gate) (x : Option FreeSend) : (s.setFreeSend g x).supply = s.supply := rfl
@[simp] theorem State.setFreeSend_arbiter (g : Gate) (x : Option FreeSend) : (s.setFreeSend g x).arbiter = s.arbiter := rfl
@[simp] theorem State.setFreeSend_bells (g : Gate) (x : Option FreeSend) : (s.setFreeSend g x).bells = { s.bells with freeSends := s.bells.freeSends.set g.val x } := rfl
@[simp] theorem State.setFreeSend_journal (g : Gate) (x : Option FreeSend) : (s.setFreeSend g x).journal = s.journal := rfl
@[simp] theorem State.setFreeSend_orders (g : Gate) (x : Option FreeSend) : (s.setFreeSend g x).orders = s.orders := rfl
@[simp] theorem State.setFreeSend_control (g : Gate) (x : Option FreeSend) : (s.setFreeSend g x).control = s.control := rfl
@[simp] theorem State.setFreeSend_mem (g : Gate) (x : Option FreeSend) : (s.setFreeSend g x).mem = s.mem := rfl
@[simp] theorem State.setFreeSend_freeUsed (g : Gate) (x : Option FreeSend) : (s.setFreeSend g x).freeUsed = s.freeUsed := rfl
@[simp] theorem State.setFreeSend_pending (g : Gate) (x : Option FreeSend) : (s.setFreeSend g x).pending = s.pending := rfl
@[simp] theorem State.setFreeSend_reader (g : Gate) (x : Option FreeSend) (i : Fin 16) : (s.setFreeSend g x).reader i = s.reader i := rfl
@[simp] theorem State.setFreeSend_link (g : Gate) (x : Option FreeSend) (i : LinkNo) : (s.setFreeSend g x).link i = s.link i := rfl
@[simp] theorem State.setFreeSend_door (g : Gate) (x : Option FreeSend) (i : Gate) : (s.setFreeSend g x).door i = s.door i := rfl
@[simp] theorem State.setFreeSend_queue (g : Gate) (x : Option FreeSend) (i : Gate) : (s.setFreeSend g x).queue i = s.queue i := rfl

/-! ### store -/

@[simp] theorem State.store_time (a : Nat) (w : Word) : (s.store a w).time = s.time := rfl
@[simp] theorem State.store_readers (a : Nat) (w : Word) : (s.store a w).readers = s.readers := rfl
@[simp] theorem State.store_links (a : Nat) (w : Word) : (s.store a w).links = s.links := rfl
@[simp] theorem State.store_engine (a : Nat) (w : Word) : (s.store a w).engine = s.engine := rfl
@[simp] theorem State.store_doors (a : Nat) (w : Word) : (s.store a w).doors = s.doors := rfl
@[simp] theorem State.store_supply (a : Nat) (w : Word) : (s.store a w).supply = s.supply := rfl
@[simp] theorem State.store_arbiter (a : Nat) (w : Word) : (s.store a w).arbiter = s.arbiter := rfl
@[simp] theorem State.store_bells (a : Nat) (w : Word) : (s.store a w).bells = s.bells := rfl
@[simp] theorem State.store_journal (a : Nat) (w : Word) : (s.store a w).journal = s.journal := rfl
@[simp] theorem State.store_orders (a : Nat) (w : Word) : (s.store a w).orders = s.orders := rfl
@[simp] theorem State.store_control (a : Nat) (w : Word) : (s.store a w).control = s.control := rfl
@[simp] theorem State.store_mem (a : Nat) (w : Word) : (s.store a w).mem = writeWord s.mem a w := rfl
@[simp] theorem State.store_freeUsed (a : Nat) (w : Word) : (s.store a w).freeUsed = s.freeUsed := rfl
@[simp] theorem State.store_pending (a : Nat) (w : Word) : (s.store a w).pending = s.pending := rfl
@[simp] theorem State.store_reader (a : Nat) (w : Word) (i : Fin 16) : (s.store a w).reader i = s.reader i := rfl
@[simp] theorem State.store_link (a : Nat) (w : Word) (i : LinkNo) : (s.store a w).link i = s.link i := rfl
@[simp] theorem State.store_door (a : Nat) (w : Word) (i : Gate) : (s.store a w).door i = s.door i := rfl
@[simp] theorem State.store_queue (a : Nat) (w : Word) (i : Gate) : (s.store a w).queue i = s.queue i := rfl
@[simp] theorem State.store_line (a : Nat) (w : Word) (i : LineNo) : (s.store a w).line i = s.line i := rfl
@[simp] theorem State.store_freeSend (a : Nat) (w : Word) (i : Gate) : (s.store a w).freeSend i = s.freeSend i := rfl

/-! ### storeAll -/

@[simp] theorem State.storeAll_time (a : Nat) (ws : List Word) : (s.storeAll a ws).time = s.time := rfl
@[simp] theorem State.storeAll_readers (a : Nat) (ws : List Word) : (s.storeAll a ws).readers = s.readers := rfl
@[simp] theorem State.storeAll_links (a : Nat) (ws : List Word) : (s.storeAll a ws).links = s.links := rfl
@[simp] theorem State.storeAll_engine (a : Nat) (ws : List Word) : (s.storeAll a ws).engine = s.engine := rfl
@[simp] theorem State.storeAll_doors (a : Nat) (ws : List Word) : (s.storeAll a ws).doors = s.doors := rfl
@[simp] theorem State.storeAll_supply (a : Nat) (ws : List Word) : (s.storeAll a ws).supply = s.supply := rfl
@[simp] theorem State.storeAll_arbiter (a : Nat) (ws : List Word) : (s.storeAll a ws).arbiter = s.arbiter := rfl
@[simp] theorem State.storeAll_bells (a : Nat) (ws : List Word) : (s.storeAll a ws).bells = s.bells := rfl
@[simp] theorem State.storeAll_journal (a : Nat) (ws : List Word) : (s.storeAll a ws).journal = s.journal := rfl
@[simp] theorem State.storeAll_orders (a : Nat) (ws : List Word) : (s.storeAll a ws).orders = s.orders := rfl
@[simp] theorem State.storeAll_control (a : Nat) (ws : List Word) : (s.storeAll a ws).control = s.control := rfl
@[simp] theorem State.storeAll_mem (a : Nat) (ws : List Word) : (s.storeAll a ws).mem = writeWords s.mem a ws := rfl
@[simp] theorem State.storeAll_freeUsed (a : Nat) (ws : List Word) : (s.storeAll a ws).freeUsed = s.freeUsed := rfl
@[simp] theorem State.storeAll_pending (a : Nat) (ws : List Word) : (s.storeAll a ws).pending = s.pending := rfl
@[simp] theorem State.storeAll_reader (a : Nat) (ws : List Word) (i : Fin 16) : (s.storeAll a ws).reader i = s.reader i := rfl
@[simp] theorem State.storeAll_link (a : Nat) (ws : List Word) (i : LinkNo) : (s.storeAll a ws).link i = s.link i := rfl
@[simp] theorem State.storeAll_door (a : Nat) (ws : List Word) (i : Gate) : (s.storeAll a ws).door i = s.door i := rfl
@[simp] theorem State.storeAll_queue (a : Nat) (ws : List Word) (i : Gate) : (s.storeAll a ws).queue i = s.queue i := rfl
@[simp] theorem State.storeAll_line (a : Nat) (ws : List Word) (i : LineNo) : (s.storeAll a ws).line i = s.line i := rfl
@[simp] theorem State.storeAll_freeSend (a : Nat) (ws : List Word) (i : Gate) : (s.storeAll a ws).freeSend i = s.freeSend i := rfl

/-! ### storeChanged -/

@[simp] theorem State.storeChanged_time (a : Nat) (old new : List Word) : (s.storeChanged a old new).time = s.time := rfl
@[simp] theorem State.storeChanged_readers (a : Nat) (old new : List Word) : (s.storeChanged a old new).readers = s.readers := rfl
@[simp] theorem State.storeChanged_links (a : Nat) (old new : List Word) : (s.storeChanged a old new).links = s.links := rfl
@[simp] theorem State.storeChanged_engine (a : Nat) (old new : List Word) : (s.storeChanged a old new).engine = s.engine := rfl
@[simp] theorem State.storeChanged_doors (a : Nat) (old new : List Word) : (s.storeChanged a old new).doors = s.doors := rfl
@[simp] theorem State.storeChanged_supply (a : Nat) (old new : List Word) : (s.storeChanged a old new).supply = s.supply := rfl
@[simp] theorem State.storeChanged_arbiter (a : Nat) (old new : List Word) : (s.storeChanged a old new).arbiter = s.arbiter := rfl
@[simp] theorem State.storeChanged_bells (a : Nat) (old new : List Word) : (s.storeChanged a old new).bells = s.bells := rfl
@[simp] theorem State.storeChanged_journal (a : Nat) (old new : List Word) : (s.storeChanged a old new).journal = s.journal := rfl
@[simp] theorem State.storeChanged_orders (a : Nat) (old new : List Word) : (s.storeChanged a old new).orders = s.orders := rfl
@[simp] theorem State.storeChanged_control (a : Nat) (old new : List Word) : (s.storeChanged a old new).control = s.control := rfl
@[simp] theorem State.storeChanged_mem (a : Nat) (old new : List Word) : (s.storeChanged a old new).mem = writeChanged s.mem a old new := rfl
@[simp] theorem State.storeChanged_freeUsed (a : Nat) (old new : List Word) : (s.storeChanged a old new).freeUsed = s.freeUsed := rfl
@[simp] theorem State.storeChanged_pending (a : Nat) (old new : List Word) : (s.storeChanged a old new).pending = s.pending := rfl
@[simp] theorem State.storeChanged_reader (a : Nat) (old new : List Word) (i : Fin 16) : (s.storeChanged a old new).reader i = s.reader i := rfl
@[simp] theorem State.storeChanged_link (a : Nat) (old new : List Word) (i : LinkNo) : (s.storeChanged a old new).link i = s.link i := rfl
@[simp] theorem State.storeChanged_door (a : Nat) (old new : List Word) (i : Gate) : (s.storeChanged a old new).door i = s.door i := rfl
@[simp] theorem State.storeChanged_queue (a : Nat) (old new : List Word) (i : Gate) : (s.storeChanged a old new).queue i = s.queue i := rfl
@[simp] theorem State.storeChanged_line (a : Nat) (old new : List Word) (i : LineNo) : (s.storeChanged a old new).line i = s.line i := rfl
@[simp] theorem State.storeChanged_freeSend (a : Nat) (old new : List Word) (i : Gate) : (s.storeChanged a old new).freeSend i = s.freeSend i := rfl

/-! ### setWorker -/

@[simp] theorem State.setWorker_time (r : WorkerRef) (w : Worker) : (s.setWorker r w).time = s.time := by
  rw [State.setWorker, State.storeChanged_time]
@[simp] theorem State.setWorker_readers (r : WorkerRef) (w : Worker) : (s.setWorker r w).readers = s.readers := by
  rw [State.setWorker, State.storeChanged_readers]
@[simp] theorem State.setWorker_links (r : WorkerRef) (w : Worker) : (s.setWorker r w).links = s.links := by
  rw [State.setWorker, State.storeChanged_links]
@[simp] theorem State.setWorker_engine (r : WorkerRef) (w : Worker) : (s.setWorker r w).engine = s.engine := by
  rw [State.setWorker, State.storeChanged_engine]
@[simp] theorem State.setWorker_doors (r : WorkerRef) (w : Worker) : (s.setWorker r w).doors = s.doors := by
  rw [State.setWorker, State.storeChanged_doors]
@[simp] theorem State.setWorker_supply (r : WorkerRef) (w : Worker) : (s.setWorker r w).supply = s.supply := by
  rw [State.setWorker, State.storeChanged_supply]
@[simp] theorem State.setWorker_arbiter (r : WorkerRef) (w : Worker) : (s.setWorker r w).arbiter = s.arbiter := by
  rw [State.setWorker, State.storeChanged_arbiter]
@[simp] theorem State.setWorker_bells (r : WorkerRef) (w : Worker) : (s.setWorker r w).bells = s.bells := by
  rw [State.setWorker, State.storeChanged_bells]
@[simp] theorem State.setWorker_journal (r : WorkerRef) (w : Worker) : (s.setWorker r w).journal = s.journal := by
  rw [State.setWorker, State.storeChanged_journal]
@[simp] theorem State.setWorker_orders (r : WorkerRef) (w : Worker) : (s.setWorker r w).orders = s.orders := by
  rw [State.setWorker, State.storeChanged_orders]
@[simp] theorem State.setWorker_control (r : WorkerRef) (w : Worker) : (s.setWorker r w).control = s.control := by
  rw [State.setWorker, State.storeChanged_control]
theorem State.setWorker_mem (r : WorkerRef) (w : Worker) : (s.setWorker r w).mem = writeChanged s.mem r.address (w.before s.mem r.address) w.words := by
  rw [State.setWorker, State.storeChanged_mem]
@[simp] theorem State.setWorker_freeUsed (r : WorkerRef) (w : Worker) : (s.setWorker r w).freeUsed = s.freeUsed := by
  rw [State.setWorker, State.storeChanged_freeUsed]
@[simp] theorem State.setWorker_pending (r : WorkerRef) (w : Worker) : (s.setWorker r w).pending = s.pending := by
  rw [State.setWorker, State.storeChanged_pending]
@[simp] theorem State.setWorker_reader (r : WorkerRef) (w : Worker) (i : Fin 16) : (s.setWorker r w).reader i = s.reader i := by
  rw [State.setWorker, State.storeChanged_reader]
@[simp] theorem State.setWorker_link (r : WorkerRef) (w : Worker) (i : LinkNo) : (s.setWorker r w).link i = s.link i := by
  rw [State.setWorker, State.storeChanged_link]
@[simp] theorem State.setWorker_door (r : WorkerRef) (w : Worker) (i : Gate) : (s.setWorker r w).door i = s.door i := by
  rw [State.setWorker, State.storeChanged_door]
@[simp] theorem State.setWorker_queue (r : WorkerRef) (w : Worker) (i : Gate) : (s.setWorker r w).queue i = s.queue i := by
  rw [State.setWorker, State.storeChanged_queue]
@[simp] theorem State.setWorker_line (r : WorkerRef) (w : Worker) (i : LineNo) : (s.setWorker r w).line i = s.line i := by
  rw [State.setWorker, State.storeChanged_line]
@[simp] theorem State.setWorker_freeSend (r : WorkerRef) (w : Worker) (i : Gate) : (s.setWorker r w).freeSend i = s.freeSend i := by
  rw [State.setWorker, State.storeChanged_freeSend]

/-! ### setWorkerOpenIn -/

@[simp] theorem State.setWorkerOpenIn_time (r : WorkerRef) (w : Worker) : (s.setWorkerOpenIn r w).time = s.time := by
  simp [State.setWorkerOpenIn]
@[simp] theorem State.setWorkerOpenIn_readers (r : WorkerRef) (w : Worker) : (s.setWorkerOpenIn r w).readers = s.readers := by
  simp [State.setWorkerOpenIn]
@[simp] theorem State.setWorkerOpenIn_links (r : WorkerRef) (w : Worker) : (s.setWorkerOpenIn r w).links = s.links := by
  simp [State.setWorkerOpenIn]
@[simp] theorem State.setWorkerOpenIn_engine (r : WorkerRef) (w : Worker) : (s.setWorkerOpenIn r w).engine = s.engine := by
  simp [State.setWorkerOpenIn]
@[simp] theorem State.setWorkerOpenIn_doors (r : WorkerRef) (w : Worker) : (s.setWorkerOpenIn r w).doors = s.doors := by
  simp [State.setWorkerOpenIn]
@[simp] theorem State.setWorkerOpenIn_supply (r : WorkerRef) (w : Worker) : (s.setWorkerOpenIn r w).supply = s.supply := by
  simp [State.setWorkerOpenIn]
@[simp] theorem State.setWorkerOpenIn_arbiter (r : WorkerRef) (w : Worker) : (s.setWorkerOpenIn r w).arbiter = s.arbiter := by
  simp [State.setWorkerOpenIn]
@[simp] theorem State.setWorkerOpenIn_bells (r : WorkerRef) (w : Worker) : (s.setWorkerOpenIn r w).bells = s.bells := by
  simp [State.setWorkerOpenIn]
@[simp] theorem State.setWorkerOpenIn_journal (r : WorkerRef) (w : Worker) : (s.setWorkerOpenIn r w).journal = s.journal := by
  simp [State.setWorkerOpenIn]
@[simp] theorem State.setWorkerOpenIn_orders (r : WorkerRef) (w : Worker) : (s.setWorkerOpenIn r w).orders = s.orders := by
  simp [State.setWorkerOpenIn]
@[simp] theorem State.setWorkerOpenIn_control (r : WorkerRef) (w : Worker) : (s.setWorkerOpenIn r w).control = s.control := by
  simp [State.setWorkerOpenIn]
theorem State.setWorkerOpenIn_mem (r : WorkerRef) (w : Worker) :
    (s.setWorkerOpenIn r w).mem = writeWords (s.setWorker r w).mem (r.address + 16) (w.liveWords.take 3) := by
  rw [State.setWorkerOpenIn, State.storeAll_mem]
@[simp] theorem State.setWorkerOpenIn_freeUsed (r : WorkerRef) (w : Worker) : (s.setWorkerOpenIn r w).freeUsed = s.freeUsed := by
  simp [State.setWorkerOpenIn]
@[simp] theorem State.setWorkerOpenIn_pending (r : WorkerRef) (w : Worker) : (s.setWorkerOpenIn r w).pending = s.pending := by
  simp [State.setWorkerOpenIn]
@[simp] theorem State.setWorkerOpenIn_reader (r : WorkerRef) (w : Worker) (i : Fin 16) : (s.setWorkerOpenIn r w).reader i = s.reader i := by
  simp [State.setWorkerOpenIn]
@[simp] theorem State.setWorkerOpenIn_link (r : WorkerRef) (w : Worker) (i : LinkNo) : (s.setWorkerOpenIn r w).link i = s.link i := by
  simp [State.setWorkerOpenIn]
@[simp] theorem State.setWorkerOpenIn_door (r : WorkerRef) (w : Worker) (i : Gate) : (s.setWorkerOpenIn r w).door i = s.door i := by
  simp [State.setWorkerOpenIn]
@[simp] theorem State.setWorkerOpenIn_queue (r : WorkerRef) (w : Worker) (i : Gate) : (s.setWorkerOpenIn r w).queue i = s.queue i := by
  simp [State.setWorkerOpenIn]
@[simp] theorem State.setWorkerOpenIn_line (r : WorkerRef) (w : Worker) (i : LineNo) : (s.setWorkerOpenIn r w).line i = s.line i := by
  simp [State.setWorkerOpenIn]
@[simp] theorem State.setWorkerOpenIn_freeSend (r : WorkerRef) (w : Worker) (i : Gate) : (s.setWorkerOpenIn r w).freeSend i = s.freeSend i := by
  simp [State.setWorkerOpenIn]

/-! ### latch -/

@[simp] theorem State.latch_time (f : Latched → Latched) : (s.latch f).time = s.time := rfl
@[simp] theorem State.latch_readers (f : Latched → Latched) : (s.latch f).readers = s.readers := rfl
@[simp] theorem State.latch_links (f : Latched → Latched) : (s.latch f).links = s.links := rfl
@[simp] theorem State.latch_engine (f : Latched → Latched) : (s.latch f).engine = s.engine := rfl
@[simp] theorem State.latch_doors (f : Latched → Latched) : (s.latch f).doors = s.doors := rfl
@[simp] theorem State.latch_supply (f : Latched → Latched) : (s.latch f).supply = s.supply := rfl
@[simp] theorem State.latch_arbiter (f : Latched → Latched) : (s.latch f).arbiter = s.arbiter := rfl
@[simp] theorem State.latch_bells (f : Latched → Latched) : (s.latch f).bells = s.bells := rfl
@[simp] theorem State.latch_journal (f : Latched → Latched) : (s.latch f).journal = s.journal := rfl
@[simp] theorem State.latch_orders (f : Latched → Latched) : (s.latch f).orders = s.orders := rfl
@[simp] theorem State.latch_control (f : Latched → Latched) : (s.latch f).control = { s.control with latched := f s.control.latched } := rfl
@[simp] theorem State.latch_mem (f : Latched → Latched) : (s.latch f).mem = s.mem := rfl
@[simp] theorem State.latch_freeUsed (f : Latched → Latched) : (s.latch f).freeUsed = s.freeUsed := rfl
@[simp] theorem State.latch_pending (f : Latched → Latched) : (s.latch f).pending = s.pending := rfl
@[simp] theorem State.latch_reader (f : Latched → Latched) (i : Fin 16) : (s.latch f).reader i = s.reader i := rfl
@[simp] theorem State.latch_link (f : Latched → Latched) (i : LinkNo) : (s.latch f).link i = s.link i := rfl
@[simp] theorem State.latch_door (f : Latched → Latched) (i : Gate) : (s.latch f).door i = s.door i := rfl
@[simp] theorem State.latch_queue (f : Latched → Latched) (i : Gate) : (s.latch f).queue i = s.queue i := rfl
@[simp] theorem State.latch_line (f : Latched → Latched) (i : LineNo) : (s.latch f).line i = s.line i := rfl
@[simp] theorem State.latch_freeSend (f : Latched → Latched) (i : Gate) : (s.latch f).freeSend i = s.freeSend i := rfl

/-! ### The indexed parts, written and read back -/

@[simp] theorem State.reader_setReader (i j : Fin 16) (x : Reader) : (s.setReader i x).reader j = if i = j then x else s.reader j := by
  simp [State.reader, State.setReader, Vector.getElem_set, Fin.ext_iff]

@[simp] theorem State.link_setLink (i j : LinkNo) (x : Link) : (s.setLink i x).link j = if i = j then x else s.link j := by
  simp [State.link, State.setLink, Vector.getElem_set, Fin.ext_iff]

@[simp] theorem State.door_setDoor (i j : Gate) (x : Door) : (s.setDoor i x).door j = if i = j then x else s.door j := by
  simp [State.door, State.setDoor, Vector.getElem_set, Fin.ext_iff]

@[simp] theorem State.queue_setQueue (i j : Gate) (x : List Punch) : (s.setQueue i x).queue j = if i = j then x else s.queue j := by
  simp [State.queue, State.setQueue, State.withEngine, Vector.getElem_set, Fin.ext_iff]

@[simp] theorem State.line_setLine (i j : LineNo) (x : Line) : (s.setLine i x).line j = if i = j then x else s.line j := by
  simp [State.line, State.setLine, State.withBells, Vector.getElem_set, Fin.ext_iff]

@[simp] theorem State.freeSend_setFreeSend (i j : Gate) (x : Option FreeSend) : (s.setFreeSend i x).freeSend j = if i = j then x else s.freeSend j := by
  simp [State.freeSend, State.setFreeSend, State.withBells, Vector.getElem_set, Fin.ext_iff]

@[simp] theorem State.setLine_freeSend (n : LineNo) (x : Line) (i : Gate) : (s.setLine n x).freeSend i = s.freeSend i := rfl
@[simp] theorem State.setFreeSend_line (g : Gate) (x : Option FreeSend) (i : LineNo) : (s.setFreeSend g x).line i = s.line i := rfl

/-! ### Two updates of one part -/

@[simp] theorem State.setReader_setReader (i : Fin 16) (x y : Reader) : (s.setReader i x).setReader i y = s.setReader i y := by
  simp [State.setReader]

@[simp] theorem State.setLink_setLink (i : LinkNo) (x y : Link) : (s.setLink i x).setLink i y = s.setLink i y := by
  simp [State.setLink]

@[simp] theorem State.setDoor_setDoor (i : Gate) (x y : Door) : (s.setDoor i x).setDoor i y = s.setDoor i y := by
  simp [State.setDoor]

@[simp] theorem State.setQueue_setQueue (i : Gate) (x y : List Punch) : (s.setQueue i x).setQueue i y = s.setQueue i y := by
  simp [State.setQueue, State.withEngine]

@[simp] theorem State.setLine_setLine (i : LineNo) (x y : Line) : (s.setLine i x).setLine i y = s.setLine i y := by
  simp [State.setLine, State.withBells]

@[simp] theorem State.setFreeSend_setFreeSend (i : Gate) (x y : Option FreeSend) : (s.setFreeSend i x).setFreeSend i y = s.setFreeSend i y := by
  simp [State.setFreeSend, State.withBells]

end Sys2Proof.Machine
end

