-- ==== Sys2Proof/Laws/Operations.lean ====
section
/-! SUPPORT. For each shared operation one lemma that says what of the state it can write, so that no caller unfolds it, and
the cases in which it writes nothing. A frame lemma reads: the result is the given state with these fields replaced. -/

namespace Sys2Proof.Machine

variable (s : State)

/-! ### The journal writer (R174–R186) -/

/-- A release walk writes the journal and the latched causes (R180, R181). -/
theorem State.releaseWalk_frame :
    ∃ j l, s.releaseWalk = { s with journal := j, control := { s.control with latched := l } } := by
  unfold State.releaseWalk
  split
  · exact ⟨_, _, rfl⟩
  · split
    · exact ⟨_, _, rfl⟩
    · split
      · exact ⟨_, _, rfl⟩
      · dsimp only
        split <;> exact ⟨_, _, rfl⟩

/-- No walk is made while damaged (R176, R181). -/
theorem State.releaseWalk_damaged (h : s.journal.damaged = true) : s.releaseWalk = s := by
  unfold State.releaseWalk
  split <;> simp_all

/-- A request for room writes the journal and the latched causes (R176). -/
theorem State.requestRoom_frame (n : Nat) :
    ∃ j l, (s.requestRoom n).2 = { s with journal := j, control := { s.control with latched := l } } := by
  unfold State.requestRoom
  split
  · exact ⟨_, _, rfl⟩
  · split
    · exact ⟨_, _, rfl⟩
    · exact s.releaseWalk_frame

/-- With the room there a request is granted and changes nothing (R175). -/
theorem State.requestRoom_there {n : Nat} (hr : s.journal.region.isSome = true) (hf : n ≤ s.journal.freeWords) :
    s.requestRoom n = (true, s) := by
  have h : s.journal.region.isNone = false := by cases hs : s.journal.region <;> simp_all
  simp [State.requestRoom, h, hf]

/-- A filler writes the journal and common memory (R178). -/
theorem State.wrapFor_frame (r : Region) (k : Nat) : ∃ j m, s.wrapFor r k = { s with journal := j, mem := m } := by
  by_cases h : r.wordsLeft s.journal.writePos < k
  · rw [State.wrapFor, if_pos h]
    dsimp only [State.store, State.storeAll, State.withMem, State.withJournal]
    exact ⟨_, _, rfl⟩
  · rw [State.wrapFor, if_neg h]
    exact ⟨s.journal, s.mem, rfl⟩

/-- A record with the filler it may need writes the journal and common memory (R178). -/
theorem State.writeRecord_frame (x : JRecord) : ∃ j m, s.writeRecord x = { s with journal := j, mem := m } := by
  unfold State.writeRecord
  split
  · exact ⟨_, _, rfl⟩
  · obtain ⟨j, m, h⟩ := s.wrapFor_frame _ x.size
    rw [h]
    exact ⟨_, _, rfl⟩

/-- The records of an event write the journal and common memory (R178). -/
theorem State.writeRecords_frame (xs : List JRecord) : ∃ j m, s.writeRecords xs = { s with journal := j, mem := m } := by
  induction xs generalizing s with
  | nil => exact ⟨_, _, rfl⟩
  | cons x xs ih =>
    obtain ⟨j, m, h⟩ := s.writeRecord_frame x
    obtain ⟨j', m', h'⟩ := ih (s.writeRecord x)
    exact ⟨j', m', by rw [show s.writeRecords (x :: xs) = (s.writeRecord x).writeRecords xs from rfl, h', h]⟩

/-- The records of an event and the end of its reservation write the journal and common memory (R178). -/
theorem State.spend_frame (n : Nat) (xs : List JRecord) : ∃ j m, s.spend n xs = { s with journal := j, mem := m } := by
  obtain ⟨j, m, h⟩ := s.writeRecords_frame xs
  exact ⟨_, _, by unfold State.spend State.endReservation; rw [h]; rfl⟩

/-- A notice writes the journal, common memory and the latched causes (R176, R178, R184). -/
theorem State.notice_frame (x : JRecord) :
    ∃ j m l, s.notice x = { s with journal := j, mem := m, control := { s.control with latched := l } } := by
  unfold State.notice
  split
  · dsimp only
    obtain ⟨j, l, h⟩ := s.requestRoom_frame 4
    split
    · obtain ⟨j', m, h'⟩ := (s.requestRoom 4).2.writeRecord_frame x
      exact ⟨j', m, l, by rw [h', h]⟩
    · exact ⟨_, _, _, by rw [h]; rfl⟩
  · exact ⟨_, _, _, rfl⟩

/-- A notice changes nothing outside RUNNING and STOPPING (R15, R32, R148, R173). -/
theorem State.notice_resting (x : JRecord) (h : ¬ (s.control.runState = .running ∨ s.control.runState = .stopping)) :
    s.notice x = s := by simp [State.notice, h]

/-- With its room there a notice is its record (R175, R178). -/
theorem State.notice_there (x : JRecord) (h : s.control.runState = .running ∨ s.control.runState = .stopping)
    (hr : s.journal.region.isSome = true) (hf : 4 ≤ s.journal.freeWords) : s.notice x = s.writeRecord x := by
  simp [State.notice, h, s.requestRoom_there hr hf]

/-! ### The hit arbiter (R154–R157) -/

/-- A grant writes the arbiter, the doors and the bell lines (R155). -/
theorem State.grantNext_frame : ∃ a d l, s.grantNext = { s with arbiter := a, doors := d, bells := { s.bells with lines := l } } := by
  unfold State.grantNext
  split
  · split
    · exact ⟨_, _, _, rfl⟩
    · unfold State.grantTo
      dsimp only
      split <;> exact ⟨_, _, _, rfl⟩
  · exact ⟨_, _, _, rfl⟩

/-- A claim writes the arbiter, the doors and the bell lines (R154). -/
theorem State.claimSlot_frame (c : Claimant) : ∃ a d l, s.claimSlot c = { s with arbiter := a, doors := d, bells := { s.bells with lines := l } } := by
  unfold State.claimSlot
  split
  · exact ⟨_, _, _, rfl⟩
  · split
    · exact ⟨_, _, _, rfl⟩
    · obtain ⟨a, d, l, h⟩ := State.grantNext_frame (s.withArbiter { s.arbiter with requests := s.arbiter.requests ++ [c] })
      exact ⟨a, d, l, h⟩

/-- A release writes the arbiter, the doors and the bell lines (R156). -/
theorem State.releaseSlot_frame (c : Claimant) : ∃ a d l, s.releaseSlot c = { s with arbiter := a, doors := d, bells := { s.bells with lines := l } } := by
  unfold State.releaseSlot
  split
  · obtain ⟨a, d, l, h⟩ := State.grantNext_frame (s.withArbiter { s.arbiter with holder := none })
    exact ⟨a, d, l, h⟩
  · exact ⟨_, _, _, rfl⟩

/-- A release that is not the holder's is ignored (R156). -/
theorem State.releaseSlot_other (c : Claimant) (h : s.arbiter.holder ≠ some c) : s.releaseSlot c = s := by
  simp [State.releaseSlot, h]

/-- The last holder's release leaves the slot free (R156). -/
theorem State.releaseSlot_last (c : Claimant) (h : s.arbiter = { holder := some c, requests := [] }) :
    s.releaseSlot c = { s with arbiter := { holder := none, requests := [] } } := by
  simp [State.releaseSlot, State.grantNext, State.withArbiter, h]

/-- The holder's release passes the slot to the head of the list, or leaves it free (R155, R156). -/
theorem State.releaseSlot_passes {c : Claimant} {u : State} (h : s.arbiter.holder = some c) (hp : s.slotPasses u) :
    s.releaseSlot c = u := by
  obtain ⟨hn, rfl⟩ | ⟨d, cs, hr, hs, hf, ⟨g, rfl, hc, rfl⟩ | ⟨k, rfl, hc, rfl⟩⟩ := hp
  · exact s.releaseSlot_last c (by simp [← h, ← hn])
  all_goals
    simp only [State.door, State.line] at hc
    rw [State.releaseSlot, if_pos h, State.grantNext]
    simp [State.mayGrant, State.grantTo, State.withArbiter, State.door, State.line, Door.startHit, Line.grant, hr, hs, hf, hc]

/-- A withdrawal writes the arbiter, the doors and the bell lines (R155). -/
theorem State.withdrawClaim_frame (c : Claimant) : ∃ a d l, s.withdrawClaim c = { s with arbiter := a, doors := d, bells := { s.bells with lines := l } } := by
  unfold State.withdrawClaim
  split
  · exact ⟨_, _, _, rfl⟩
  · exact s.releaseSlot_frame c

/-! ### The door channels (R127–R150) -/

/-- No entry enters or leaves a queue when its served entry changes. -/
@[simp] theorem mapOldest_length (w : WorkerRef) (f : Punch → Punch) (q : List Punch) : (mapOldest w f q).length = q.length := by
  induction q with
  | nil => rfl
  | cons p q ih => unfold mapOldest; split <;> simp [ih]

/-- Exactly one entry changes: the oldest that is not yet reported and names the worker, whatever stands after it. -/
theorem mapOldest_eq (w : WorkerRef) (f : Punch → Punch) {p : Punch} {older : List Punch} (newer : List Punch)
    (ho : ∀ x ∈ older, x.report.isNone = true → x.worker ≠ w) (hw : p.worker = w) (hr : p.report = none) :
    mapOldest w f (older ++ p :: newer) = older ++ f p :: newer := by
  induction older with
  | nil => simp [mapOldest, hw, hr]
  | cons x older ih =>
    have hx : ¬ (x.worker = w ∧ x.report.isNone = true) := fun h => ho x (by simp) h.2 h.1
    simp only [List.cons_append, mapOldest, if_neg hx]
    rw [ih fun y hy => ho y (by simp [hy])]

/-- The only entry of a queue, not yet reported, changes. -/
theorem mapOldest_single (f : Punch → Punch) {p : Punch} (hr : p.report = none) : mapOldest p.worker f [p] = [f p] :=
  mapOldest_eq p.worker f (older := []) [] (by simp) rfl hr

/-- No entry that names the worker is left to report: nothing changes. -/
theorem mapOldest_none (w : WorkerRef) (f : Punch → Punch) (q : List Punch)
    (h : ∀ x ∈ q, x.report.isNone = true → x.worker ≠ w) : mapOldest w f q = q := by
  induction q with
  | nil => rfl
  | cons x q ih =>
    have hx : ¬ (x.worker = w ∧ x.report.isNone = true) := fun hx => h x (by simp) hx.2 hx.1
    rw [mapOldest, if_neg hx, ih fun y hy => h y (by simp [hy])]

/-- A change of the served entry writes the queues (R81). -/
theorem State.changeServed_frame (g : Gate) (f : Punch → Punch) :
    ∃ q, s.changeServed g f = { s with engine := { s.engine with queues := q } } := by
  unfold State.changeServed
  split <;> exact ⟨_, rfl⟩

/-- A channel that serves no entry changes none. -/
theorem State.changeServed_none (g : Gate) (f : Punch → Punch) (h : (s.door g).served = none) : s.changeServed g f = s := by
  unfold State.changeServed
  rw [h]

/-- The served entry is changed in its place, and no other entry with it (R81, R130). -/
theorem State.changeServed_eq (g : Gate) (f : Punch → Punch) {p : Punch} {older newer : List Punch}
    (hs : (s.door g).served = some p.worker) (hq : s.queue g = older ++ p :: newer)
    (ho : ∀ x ∈ older, x.report.isNone = true → x.worker ≠ p.worker) (hr : p.report = none) :
    s.changeServed g f = s.setQueue g (older ++ f p :: newer) := by
  simp only [State.changeServed, hs, hq, mapOldest_eq p.worker f newer ho rfl hr]

/-- A report for the served entry writes the queues (R81). -/
theorem State.reportServed_frame (g : Gate) (o : PassageReport) :
    ∃ q, s.reportServed g o = { s with engine := { s.engine with queues := q } } :=
  s.changeServed_frame g _

/-- NO_MOVE of the served entry writes the queues (R133, R134). -/
theorem State.markNoMove_frame (g : Gate) : ∃ q, s.markNoMove g = { s with engine := { s.engine with queues := q } } :=
  s.changeServed_frame g _

/-- The test of R130 writes the doors, the arbiter and the bell lines. -/
theorem State.beginPunch_frame (g : Gate) : ∃ a d l, s.beginPunch g = { s with arbiter := a, doors := d, bells := { s.bells with lines := l } } := by
  unfold State.beginPunch
  split
  · exact ⟨_, _, _, rfl⟩
  · obtain ⟨a, d, l, h⟩ := State.claimSlot_frame (s.setDoor g _) (.door g)
    exact ⟨a, d, l, h⟩

/-- The test of R130 writes the doors, the arbiter and the bell lines. -/
theorem State.beginCycle_frame (g : Gate) : ∃ a d l, s.beginCycle g = { s with arbiter := a, doors := d, bells := { s.bells with lines := l } } := by
  unfold State.beginCycle
  dsimp only
  split
  · exact ⟨_, _, _, rfl⟩
  · split
    · split
      · obtain ⟨a, d, l, h⟩ := State.claimSlot_frame (s.setDoor g _) (.door g)
        exact ⟨a, d, l, h⟩
      · obtain ⟨a, d, l, h⟩ := State.beginPunch_frame (s.setDoor g _) g
        exact ⟨a, d, l, h⟩
    · exact s.beginPunch_frame g

/-- The test of R130 does nothing out of IDLE. -/
theorem State.beginCycle_busy (g : Gate) (h : (s.door g).state ≠ .idle) : s.beginCycle g = s := by
  simp [State.beginCycle, h]

/-- The test of R130 does nothing with no request pending and no punch left to report. -/
theorem State.beginCycle_nothing (g : Gate) (hp : (s.door g).freePending = false)
    (hq : ∀ p ∈ s.queue g, p.report.isNone = false) : s.beginCycle g = s := by
  have hf : (s.queue g).find? (fun p => p.report.isNone) = none := by
    rw [List.find?_eq_none]; intro p hp'; simp [hq p hp']
  unfold State.beginCycle State.beginPunch
  dsimp only
  simp [hp, hf]

/-- The entry to IDLE writes the doors, the arbiter and the bell lines. -/
theorem State.toIdle_frame (g : Gate) : ∃ a d l, s.toIdle g = { s with arbiter := a, doors := d, bells := { s.bells with lines := l } } := by
  unfold State.toIdle
  obtain ⟨a, d, l, h⟩ := State.beginCycle_frame (s.setDoor g _) g
  exact ⟨a, d, l, h⟩

/-- The entry to CLOSING writes the door (R133, R135, R145). -/
theorem State.toClosing_frame (g : Gate) : ∃ d, s.toClosing g = { s with doors := d } := ⟨_, rfl⟩

/-- The held-open timer started, its other fields standing (R137). -/
theorem Door.startHeld_eq (d : Door) (now : Nat) : d.startHeld now = { d with heldTimer := d.heldFrom now } := by
  unfold Door.startHeld Door.heldFrom
  split <;> simp_all

/-- The held-open timer of a channel whose contact stands OPEN, its other fields standing (R137). -/
theorem Door.heldIfOpen_eq (d : Door) (now : Nat) : d.heldIfOpen now =
    { d with heldTimer := if d.contact = .opened ∧ d.settling = false then d.heldFrom now else d.heldTimer } := by
  unfold Door.heldIfOpen
  rw [Door.startHeld_eq]
  split <;> rfl

/-- A contact taken OPEN: the timer runs in every state but FREE (R137). -/
theorem Door.openContact_eq (d : Door) (now : Nat) : d.openContact now =
    { d with contact := .opened, heldTimer := if d.state = .free then d.heldTimer else d.heldFrom now } := by
  unfold Door.openContact
  dsimp only
  rw [Door.startHeld_eq]
  split <;> rfl

/-- Words of the status block written as they stand write common memory (R198). -/
theorem State.rewriteStatus_frame (is : List Nat) : ∃ m, s.rewriteStatus is = { s with mem := m } := by
  unfold State.rewriteStatus
  split <;> exact ⟨_, rfl⟩

/-! ### The door channel (R128, R129) -/

/-- What a channel is once it has taken a gate entry (R128, R129). -/
theorem Door.takeParams_eq (d : Door) (e : GateEntry) : d.takeParams e = d.taken e := by
  unfold Door.takeParams Door.taken Door.unequip Door.takeTimed Door.beginSupervision Door.supervised
  cases h : e.equipped <;> cases h2 : e.params.mode <;> cases h3 : d.equipped <;> cases h4 : d.par.mode <;> simp_all

/-! ### The run state, the walk and the end of an event (R147, R176, R192, R195–R198) -/

/-- The test of R192 writes the control block, the sweep and the order unit. -/
theorem State.stopCheck_frame : ∃ c e o, s.stopCheck = { s with control := c, engine := e, orders := o } := by
  unfold State.stopCheck
  split
  · dsimp only
    split <;> exact ⟨_, _, _, rfl⟩
  · exact ⟨_, _, _, rfl⟩

theorem mem_gates (g : Gate) : g ∈ gates := by decide +revert
theorem mem_lineNos (n : LineNo) : n ∈ lineNos := by decide +revert

/-- What R192 tests, gate by gate and line by line. -/
theorem State.quiet_iff :
    s.quiet = true ↔ (∀ g, s.queue g = []) ∧ (∀ n, (s.line n).state = .idle) ∧ s.orders.walking = false := by
  simp [State.quiet, mem_gates, mem_lineNos, and_assoc]

/-- The test of R192 ends the stop where nothing holds it. -/
theorem State.stopCheck_eq : s.stopCheck = s.afterStop := by
  unfold State.stopCheck State.afterStop
  simp only [s.quiet_iff]
  rfl

/-- The test of R192 does nothing out of STOPPING. -/
theorem State.stopCheck_other (h : s.control.runState ≠ .stopping) : s.stopCheck = s := by
  simp [State.stopCheck, h]

/-- The end of a walk in RUNNING: the order unit as at power-up, ORDERS_DONE latched (R197). -/
theorem State.endWalk_running (h : s.control.runState ≠ .stopping) :
    s.endWalk = (s.withOrders OrderUnit.reset).latch Latched.setOrdersDone :=
  State.stopCheck_other _ h

/-- The end of a block writes the control block, the sweep, the order unit and common memory (R196, R197). -/
theorem State.finishBlock_frame (link : Word) (r : OrderResult) :
    ∃ c e o m, s.finishBlock link r = { s with control := c, engine := e, orders := o, mem := m } := by
  unfold State.finishBlock
  dsimp only
  split
  · unfold State.endWalk
    exact (State.stopCheck_frame _).elim fun c ⟨e, o, h⟩ => ⟨c, e, o, _, h⟩
  · exact ⟨_, _, _, _, rfl⟩

/-- No room given back: nothing is offered (R176). -/
theorem State.offerRoom_none (h : s.journal.roomGiven = false) : s.offerRoom = s := by
  simp [State.offerRoom, h]

/-- Room that no paused sweep and no carry waits for is offered to no one (R176). -/
theorem State.offerRoom_unwanted (h : s.noneWaitsForRoom) :
    s.offerRoom = { s with journal := { s.journal with roomGiven := false } } := by
  obtain ⟨h1, h2⟩ := h
  unfold State.offerRoom
  split
  · dsimp only [State.withJournal]
    split
    · contradiction
    · rename_i heq _ _; simp [heq, Install.inCarry] at h2
    · rfl
  · rename_i hn
    have hf : s.journal.roomGiven = false := by simpa using hn
    conv => lhs; rw [show s = { s with journal := { s.journal with roomGiven := s.journal.roomGiven } } from rfl, hf]

/-- The alarm writes its output and its stretch timer (R147). -/
theorem followAlarm_frame (before after : State) : ∃ a x,
    followAlarm before after = { after with control := { after.control with alarm := a, stretch := x } } := by
  unfold followAlarm
  split
  · exact ⟨_, _, rfl⟩
  · split <;> exact ⟨_, _, rfl⟩

/-- The publishing of the status block writes common memory (R198). -/
theorem publish_frame (before after : State) : ∃ m, publish before after = { after with mem := m } := by
  unfold publish
  split <;> exact ⟨_, rfl⟩

/-- Every event that ends answers its settled state. -/
theorem finish_eq (before after : State) : finish before after = .next (settled before after) := rfl

end Sys2Proof.Machine
end

