-- ==== Sys2Proof/WellFormed.lean ====
section
/-! DEFINITION. Which commands the lines of the part can carry: the ranges of the operands.
A command outside these ranges cannot reach the part; the meanings are total all the same. -/

namespace Sys2Proof

/-- A coil current is read in 0–4095 units (00_scope, Field quantities). -/
def CoilSample.wf (x : CoilSample) : Bool := x.current ≤ 4095

/-- Common memory is addressed by words below 100000h (00_scope, Common memory; R189 check 6). -/
def wordAddress (a : Nat) : Bool := a % 4 = 0 && a < 0x100000

/-- The operand ranges of a command. A response frame has 1 to 16 bytes (R20), a sampled event at least one sample. -/
def Instr.wf : Instr → Bool
  | .responseFrame _ bytes _ => 1 ≤ bytes.length && bytes.length ≤ 16
  | .memoryFault cut => cut.all fun c => wordAddress c.1
  | .valleyComplete _ xs | .hitEnd _ xs | .resistanceWindow _ xs | .overcurrent _ xs | .moved _ xs =>
    !xs.isEmpty && xs.all CoilSample.wf
  | .contactOpening _ xs | .contactClosing _ xs | .contactTaken _ xs => !xs.isEmpty
  | .supplyLow xs | .supplyNormal xs => !xs.isEmpty
  | .powerUp _ | .hostRestart | .tick | .localMinuteRoll | .mark _ _ _ _ | .poll _ | .noResponse _ | .presentation _
  | .commitIn _ | .commitOut _ | .commitNotPassed _ | .commitVoided _ | .sweepTest | .orderPointerWrite _
  | .orderBlock | .setTime | .installWorkerTable | .carryBegin | .matchedStep | .oldOnlyStep | .newOnlyStep
  | .amendWorker | .setPresence | .takeTotals | .takeTotalsWorker | .settleException | .installShiftTable
  | .installBellTable | .setGate | .rearmDoor | .freePassage | .ring | .silenceBells | .clearStatus | .journalRestart
  | .controlWrite _ | .attentionWrite _ | .attentionEnableWrite _ | .registerWrite _ _ | .stretchTimerExpiry
  | .openTimerExpiry _ | .heldOpen _ | .openLoadTest _ _ | .pendingFreeSendDue _ | .bellClaim _ | .pulseStart _
  | .bellSlotRelease _ | .pulseEnd _ | .settleEnd _ | .releaseWalk | .damageRecheck | .journalHoldExpiry
  | .startChecksDone | .verifyNextRecord => true

end Sys2Proof
end

