-- ==== Sys2Proof/Tests/Slice0.lean ====
section
/-! SUPPORT. Tests: the smoke tests of WellFormed, one or two steps of each command against the rules and worked sequences of
spec/, and for every statement that has hypotheses a witness, a concrete state and operands that meet the hypotheses of each
of its clauses. -/

set_option Elab.async false

namespace Sys2Proof.Tests

open Sys2Proof.Machine

/-! ### States -/

/-- Words stored from an address. -/
def put (m : Memory) (a : Nat) (ws : List Nat) : Memory := writeWords m a (ws.map (BitVec.ofNat 32))

/-- A worker record with no live field of note (13.2): open-in NONE, last presentation none, Rd 0 for day none. -/
def record (badge group rule mask flags rate : Nat) : List Nat :=
  [badge, badge + 1000, group + rule * 32 + mask * 512 + flags * 131072, rate, 60, 0xFFFFFFFF, 2047 * 131072,
    31 * 1024 + 65535 * 65536, 0, 65535]

/-- A worker table of three at 400h: badges 10, 20 (NO_PAY) and 30 (SUSPENDED, gate 0 alone), in group 1 under pay rule 4, each with
open-in NONE and no last presentation (13.2). -/
def workerCells : Memory :=
  [(0x400, 10), (0x404, 242), (0x405, 3), (0x408, 129), (0x409, 254), (0x40A, 1), (0x40C, 224), (0x40D, 71), (0x410, 60),
   (0x414, 255), (0x415, 255), (0x416, 255), (0x417, 255), (0x41A, 254), (0x41B, 15), (0x41D, 124), (0x41E, 255),
   (0x41F, 255), (0x424, 255), (0x425, 255), (0x440, 20), (0x444, 252), (0x445, 3), (0x448, 129), (0x449, 254),
   (0x44A, 33), (0x44C, 224), (0x44D, 71), (0x450, 60), (0x454, 255), (0x455, 255), (0x456, 255), (0x457, 255),
   (0x45A, 254), (0x45B, 15), (0x45D, 124), (0x45E, 255), (0x45F, 255), (0x464, 255), (0x465, 255), (0x480, 30),
   (0x484, 6), (0x485, 4), (0x488, 129), (0x489, 2), (0x48A, 2), (0x48C, 224), (0x48D, 71), (0x490, 60), (0x494, 255),
   (0x495, 255), (0x496, 255), (0x497, 255), (0x49A, 254), (0x49B, 15), (0x49D, 124), (0x49E, 255), (0x49F, 255),
   (0x4A4, 255), (0x4A5, 255)]

/-- A shift table at 800h: the Tuesday entry of group 1, early limit 120 and auto-close delay 120, and pay rule 4, both of worked
case A (06; 13.3). -/
def shiftCells : Memory :=
  [(0x848, 104), (0x849, 1), (0x84A, 15), (0x84B, 15), (0x84C, 10), (0x84D, 85), (0x84E, 120), (0xF40, 95), (0xF41, 6),
   (0xF44, 104), (0xF45, 1), (0xF46, 30), (0xF48, 224), (0xF49, 161), (0xF4A, 20), (0xF4B, 45), (0xF4C, 208), (0xF4D, 7)]

/-- A gate table at 1000h: gate 0 between positions 0 and 1, gates 1 to 7 without readers, minimum on 5 for each line (13.4), and a
bell table of one entry at 1100h, 06:01 on every day (13.5). -/
def gateCells : Memory :=
  [(0x1001, 1), (0x1004, 44), (0x1005, 65), (0x1006, 6), (0x1007, 2), (0x1008, 200), (0x1009, 64), (0x100A, 6),
   (0x100C, 168), (0x100D, 194), (0x100E, 3), (0x1010, 96), (0x1011, 234), (0x1014, 64), (0x1015, 64), (0x1028, 64),
   (0x1029, 64), (0x103C, 64), (0x103D, 64), (0x1050, 64), (0x1051, 64), (0x1064, 64), (0x1065, 64), (0x1078, 64),
   (0x1079, 64), (0x108C, 64), (0x108D, 64), (0x10A0, 5), (0x10A4, 5), (0x10A8, 5), (0x10AC, 5), (0x10B0, 5), (0x10B4, 5),
   (0x10B8, 5), (0x10BC, 5), (0x1100, 105), (0x1101, 1), (0x1102, 127), (0x1103, 1), (0x1104, 2), (0x1105, 10), (0x1106, 5)]

/-- Common memory with the four tables. -/
def image : Memory := workerCells ++ (shiftCells ++ gateCells)

/-- The drive parameters of gate 2 in the worked sequence of 08, with the hit time maximum given. -/
def params (hitMax : Nat) : DoorParams :=
  { iStart := 300, iDip := 40, iChk := 350, deglitch := 3, hitMax := hitMax, endHitAuto := true, policy := .proceed, holdDuty := 40,
    openTime := 5, mode := .contact, heldLimit := 30, rHot := 2700, freeAllowed := true }

/-- An equipped channel at rest, its contact settled CLOSED. -/
def door : Door := { Door.reset with equipped := true, params := some (params 120), rawRun := 20 }

/-- The channel in a punch's hit for the worker at index 0. -/
def hitDoor : Door := { door with state := .hit, served := some { base := 0x400, index := 0 } }

/-- A place of the journal: 64 words (11, Worked sequence). -/
def region : Region := { first := 0x2000, last := 0x20FC }

/-- The journal empty, its next record numbered 504. -/
def journal : Journal :=
  { Journal.reset with region := some region, writePos := 0x2000, readPos := 0x2000, nextSeq := 504, oldestSeq := 504, threshold := 4 }

/-- RUNNING on day 1212, a Tuesday, at 05:55:20.25, with gate 0 equipped between the readers at positions 0 and 1. -/
def base : State :=
  { State.reset with
      time := { TimeBase.reset with tick := 5, second := 20, minute := 355, day := 1212, dow := 2, clock := .free, osc := 1000 },
      readers := (State.reset.readers.set 0 { Reader.reset with state := .online, placed := some (0, .entry) }).set 1
        { Reader.reset with state := .online, placed := some (0, .exit) },
      engine := { Engine.reset with workers := some { base := 0x400, count := 3 }, shift := some 0x800,
                                    exceptions := some { base := 0x1180, count := 2 } },
      doors := State.reset.doors.set 0 door,
      bells := { Bells.reset with current := some { base := 0x1100, count := 1 } },
      journal := journal,
      control := { Control.reset with runState := .running, runRequest := true, startResult := .started, gateTable := some 0x1000 },
      mem := image }

/-- The state after a command, or the state given where it stops. -/
def after (c : Instr) (s : State) : State := match exec c s with
  | .next t => t
  | .fault _ | .refused _ => s

/-- An order in hand, its block at 3000h and its link to 3100h. -/
def holding (o : Order) (params : List Nat) (s : State) : State :=
  { s with orders := { walking := true, current := 0x3000, endMark := false,
                       inHand := some { order := o, params := params.map (BitVec.ofNat 32), link := 0x3100, aborted := false } } }

/-- The result word an order in hand is answered with. -/
def result (c : Instr) (o : Order) (params : List Nat) (s : State) : Nat := ((after c (holding o params s)).load 0x3008).toNat

/-- Channel 0 as given, with the queue of gate 0 as given. -/
def atDoor (d : Door) (q : List Punch) (s : State) : State := (s.setDoor 0 d).setQueue 0 q

/-- A punch of the worker at index 0, at 05:55:00 of day 1212. -/
def punch (d : Direction) (report : Option PassageReport) : Punch :=
  { worker := { base := 0x400, index := 0 }, direction := d, position := 0, stamp := some { day := 1212, second := 21300 },
    passbackSoft := false, noMove := false, report := report }

/-- A gate whose head punch is reported, its 12 words reserved. -/
def reported (d : Direction) (r : PassageReport) : State :=
  (base.setQueue 0 [punch d (some r)]).withJournal { journal with reserved := 12 }

/-- Channel 0 in its hit, holding the slot, with a punch to report. -/
def hitting (d : Door) : State :=
  { atDoor d [punch .inward none] base with arbiter := { holder := some (.door 0), requests := [] } }

/-- Channel 0 in HOLD with its open timer started at the oscillator count 900. -/
def holdDoor : Door := { hitDoor with state := .hold, openTimer := some 900 }

/-- Samples at a coil supply of 24 V. -/
def coil (xs : List Nat) : List CoilSample := xs.map fun x => { current := x, millivolts := 24000 }

/-- The worker at index 0 of the table at 400h, and those after it. -/
def ref (i : Nat) : WorkerRef := { base := 0x400, index := i }

/-- Presentations handed over and not yet judged. -/
def presented (role : Role) (badge : Nat) (s : State) : State :=
  s.withEngine { s.engine with handed := [{ position := 0, gate := 0, role := role, badge := badge,
                                             stamp := some { day := 1212, second := 21300 } }] }

/-- An open-in captured from the shift of day 1212 (worked case A). -/
def openIn : OpenIn :=
  { stamp := some { day := 1212, second := 21160 }, gate := 0, start := some (1212, 360), length := 480, late := false,
    offShift := false }

/-- A worker of the table with an open-in. -/
def inside (i : Nat) (o : OpenIn) (s : State) : State :=
  s.setWorker (ref i) { s.worker (ref i) with presence := .inside, openIn := some o }

/-- A bell line with a pattern of two pulses of 1.0 s, 0.5 s apart. -/
def line (st : LineState) : Line :=
  { Line.reset with state := st, queue := [{ entry := some 0, pulses := 2, onTime := 10, gap := 5, due := none }] }

/-- Bell line 0 as given, the time standing at a half second. -/
def atLine (l : Line) : State := { base.setLine 0 l with time := { base.time with tick := 10 } }

/-- The slot held by gate 0, free of waiters or with gate 1, or line 2, next. -/
def behind (c : Option Claimant) (s : State) : State :=
  { (s.setDoor 1 { door with state := .claim }).setLine 2 (line .claim) with
      arbiter := { holder := some (.door 0), requests := c.toList } }

/-! ### WellFormed refuses what no line can carry -/

theorem wf_accepts_tick : Instr.tick.wf = true := by decide
theorem wf_refuses_coil_current : CoilSample.wf { current := 4096, millivolts := 0 } = false := by decide
theorem wf_refuses_word_address : wordAddress 2 = false := by decide
theorem wf_refuses_address_past_memory : wordAddress 0x100000 = false := by decide
theorem wf_refuses_empty_frame : (Instr.responseFrame 0 [] true).wf = false := by decide
theorem wf_refuses_long_frame : (Instr.responseFrame 0 (List.replicate 17 0) true).wf = false := by decide
theorem wf_refuses_cut_address : (Instr.memoryFault [(2, 0)]).wf = false := by decide
theorem wf_refuses_no_coil_sample : (Instr.hitEnd 0 []).wf = false := by decide
theorem wf_refuses_bad_coil_sample : (Instr.moved 0 [{ current := 5000, millivolts := 0 }]).wf = false := by decide
theorem wf_refuses_no_contact_sample : (Instr.contactTaken 0 []).wf = false := by decide
theorem wf_refuses_no_supply_sample : (Instr.supplyLow []).wf = false := by decide

/-! ### Decode: the table gives no row any bits (log entry 1) -/

theorem test_no_word_spells_a_command : decodeTableWord 32 0 = none := by decide
theorem test_no_word_enters_the_queue : (State.reset.withFetchWord 32 0).pending = [] := by decide

/-! ### Steps of the commands: power-up, control, registers -/

theorem test_power_up_low : (after (.powerUp 189) base).supply.state = .low ∧ (after (.powerUp 189) base).control.alarm = true := by
  decide +kernel
theorem test_power_up_normal : (after (.powerUp 190) base).supply.state = .normal ∧
    (after (.powerUp 190) base).journal = Journal.reset := by decide +kernel
theorem test_host_restart : (after .hostRestart { base with control := { base.control with enables := 1 } }).enableRead = 0 := by
  decide +kernel
theorem test_control_write_starts : (after (.controlWrite 1)
    { base with control := { base.control with runState := .stopped } }).control.runState = .starting := by decide +kernel
theorem test_control_write_stops : (after (.controlWrite 0) base).control.runState = .stopped := by decide +kernel
theorem test_start_without_signature : (after .startChecksDone { State.reset with
    control := { Control.reset with runState := .starting, runRequest := true } }).controlRead = 3 * 256 := by decide +kernel
theorem test_memory_fault : (after (.memoryFault [(0x7000, 7)]) base).control.runState = .faulted ∧
    (after (.memoryFault [(0x7000, 7)]) base).load 0x7000 = 7 := by decide +kernel
theorem test_attention_write : (after (.attentionWrite 1)
    { base with control := { base.control with latched := { Latched.clear with ordersDone := true, time := true } } }).attentionRead = 32 := by
  decide +kernel
theorem test_attention_enable_write : (after (.attentionEnableWrite 0xFFFFF001) base).enableRead = 1 := by decide +kernel
theorem test_register_write : exec (.registerWrite .ident 5) base = .next base := rfl

/-! ### The time base: worked sequence "a stray mark in LOCKED" (01, 1.8) -/

/-- LOCKED at 05:58:59.95 of day 1200, the last mark 05:58, LM 05:58. -/
def locked : State :=
  { base with time := { base.time with tick := 19, second := 59, minute := 358, day := 1200, clock := .locked,
                                       lastMark := some { minute := 358, dow := 2 }, lm := some (1200 * 1440 + 358) } }

/-- The mark of a minute on a Tuesday, with its check byte. -/
def mark (m : Nat) : Instr :=
  let hi := BitVec.ofNat 8 (m / 256)
  let lo := BitVec.ofNat 8 m
  .mark hi lo 2 (0 - hi - lo - 2)

theorem test_tick : (after .tick base).time.tick = 6 ∧ (after .tick base).time.osc = 1001 := by decide +kernel
theorem test_local_minute_roll : (after .localMinuteRoll locked).time =
    { locked.time with tick := 0, second := 0, minute := 359, lm := some 1728359, silence := 1, osc := 1001 } := by decide +kernel
theorem test_mark_trims : (after (mark 359) ((after .localMinuteRoll locked).withTime
    { (after .localMinuteRoll locked).time with tick := 3 })).time.silence = 0 := by decide +kernel
theorem test_mark_stray : (after (mark 390) locked).time.clock = .resync ∧
    (after (mark 390) locked).time.candidate = some { minute := 390, dow := 2 } := by decide +kernel

/-! ### Reader links (R19, R21; worked sequence "one worker at an exit reader", 02, 2.8) -/

/-- The check byte of one zero byte, worked out by hand from R21. -/
theorem test_check_byte : checkByte [0] = 0xA8 := by decide +kernel

/-- Position 0 asked, with indication counter 1 and last report 6. -/
def asked : State :=
  { (base.setReader 0 { base.reader 0 with lastReport := some 6, indCounter := 1 }) with
      links := base.links.set 0 { nextAddress := 1, exchange := some { address := 0, frame := [] } } }

/-- A response of address 0 with echo 1 and a report of badge 40,112, its check byte right. -/
def response (report age : Nat) : List Byte :=
  let body : List Byte := [0, 0, BitVec.ofNat 8 (64 + 16 + report), 0, 0, 0x9C, 0xB0, BitVec.ofNat 8 age]
  [0xC5] ++ body ++ [checkByte body]

theorem test_poll : (after (.poll 0) base).link 0 =
    { nextAddress := 1, exchange := some { address := 0, frame := (base.reader 0).pollFrame 0 } } := by decide +kernel
theorem test_no_response : ((after (.noResponse 0) asked).reader 0).failRun = 1 ∧
    ((after (.noResponse 0) asked).reader 0).noResponses = 1 := by decide +kernel
theorem test_response_frame : ((after (.responseFrame 0 (response 7 3) true) asked).engine.handed.map fun p => (p.badge, p.stamp)) =
    [(40112, some { day := 1212, second := 355 * 60 + 19 })] := by decide +kernel
theorem test_response_frame_stale : ((after (.responseFrame 0 (response 7 120) true) asked).reader 0).stales = 1 := by decide +kernel

/-! ### Presentations and commits -/

theorem test_presentation_accepted : ((after (.presentation 0) (presented .entry 10 base)).queue 0).map Punch.direction = [.inward] ∧
    (after (.presentation 0) (presented .entry 10 base)).journal.reserved = 12 := by decide +kernel
theorem test_presentation_denied : ((after (.presentation 0) (presented .entry 30 base)).reader 0).outstanding =
    some { code := .deny, tone := 2 } := by decide +kernel
theorem test_commit_in : (((after (.commitIn 0) (reported .inward .passed)).worker (ref 0)).openIn.map OpenIn.start) =
    some (some (1212, 360)) := by decide +kernel
/-- Over an OPEN open-in whose day entry fails its check: a PUNCH_UNPAIRED with ENTRY_INVALID first (R61, R65, R83; 13.7). -/
theorem test_commit_in_over_open_in : (let s := inside 0 openIn (reported .inward .passed);
    (after (.commitIn 0) (s.withMem (put s.mem 0x848 [2047]))).load 0x2000) =
      BitVec.ofNat 32 (3 * 2 ^ 28 + 2 ^ 26 + 504) := by decide +kernel

/-- The record of the worker of worked case A (06): INSIDE since 05:52:40 with the shift of 06:00 captured, Rd 0 of day 1211, and the
totals 1,920 / 60 / 0 / 650,000 / 4 with no exception pending. -/
def caseCells : Memory :=
  [(0x400, 10), (0x404, 242), (0x405, 3), (0x408, 129), (0x409, 254), (0x40A, 1), (0x40C, 224), (0x40D, 71), (0x410, 65), (0x412, 30),
   (0x414, 188), (0x415, 4), (0x416, 188), (0x417, 4), (0x418, 168), (0x419, 82), (0x41A, 208), (0x41B, 2), (0x41D, 124), (0x41E, 187),
   (0x41F, 4), (0x424, 255), (0x425, 255), (0x426, 128), (0x427, 7), (0x428, 60), (0x42C, 16), (0x42D, 235), (0x42E, 9), (0x430, 4)]

/-- Worked case A at the commit of its OUT of 15:07:20. -/
def caseA : State :=
  { (base.setQueue 0 [{ punch .outward (some .passed) with stamp := some { day := 1212, second := 54440 } }]) with
      journal := { journal with reserved := 12 }, mem := caseCells ++ (shiftCells ++ gateCells) }

/-- The credit of the plan that the commit of case A carries out, and the amount of case B; the record holds a free slot field, so memory
after it is no literal. -/
theorem test_commit_out_cases : ((caseA.closePlan (ref 0) (caseA.worker (ref 0)) openIn .out (some { day := 1212, second := 54440 })
      {}).worker.amount = 811000 ∧ (after (.commitOut 0) caseA).journal.reserved = 0) ∧
    (runStages { PayRule.read image 0x800 4 with premium := 2150 }
      { graceIn := 5, graceOut := 5, late := 10, entryInvalid := false } false 18437 1212 165490 194580 (some (165600, 194400))
      (some 1212) (fun d => if d = 1211 then 480 else 0)).amount = 154403 := by decide +kernel
/-- With open-in NONE the words of the open-in are written as R35 gives them, whatever they held (R84). -/
theorem test_commit_out_missing_in : (let s := reported .outward .passed;
    (after (.commitOut 0) (s.withMem (put s.mem 0x414 [0x12345678, 7]))).load 0x414 = 0xFFFFFFFF ∧
      (after (.commitOut 0) (s.withMem (put s.mem 0x414 [0x12345678, 7]))).load 0x418 = BitVec.ofNat 32 (2047 * 131072)) := by decide +kernel
theorem test_commit_not_passed : (after (.commitNotPassed 0) (reported .inward .notPassed)).queue 0 = [] ∧
    (after (.commitNotPassed 0) (reported .inward .notPassed)).journal.used = 4 := by decide +kernel
theorem test_commit_voided : (after (.commitVoided 0) (reported .outward (.voided .supply))).load 0x2008 =
    BitVec.ofNat 32 (1212 + 2 ^ 24 + 4 * 2 ^ 27) := by decide +kernel

/-! ### The sweep -/

/-- A sweep at its worker 0, who is inside off shift since 05:55:20 of day 1211. -/
def sweeping : State :=
  let s := inside 0 { openIn with stamp := some { day := 1211, second := 21320 }, start := none, length := 0, offShift := true } base
  s.withEngine { s.engine with sweep := .running }

theorem test_sweep_passes : (after .sweepTest (base.withEngine { base.engine with sweep := .running })).engine.sweepCursor = 1 := by
  decide +kernel
theorem test_sweep_closes_off_shift : ((after .sweepTest sweeping).worker (ref 0)).presence = .unknown ∧
    (after .sweepTest sweeping).journal.nextSeq = 505 := by decide +kernel

/-! ### Orders -/

/-- A walk at its block at 3000h, the block as given. -/
def walking (block : List Nat) : State :=
  { base with mem := put base.mem 0x3000 block, orders := { walking := true, current := 0x3000, endMark := false, inHand := none } }

theorem test_order_pointer : (after (.orderPointerWrite 0x3001) base).orderPointerRead = 0x3000 := by decide +kernel
theorem test_order_block : (after .orderBlock (walking [1, 10 + 256, 0, 2])).orders.inHand =
    some { order := .rearmDoor, params := [2], link := 1, aborted := false } := by decide +kernel
theorem test_set_time : (after .setTime (holding .setTime [1212, 360, 30, 2] base)).time.minute = 360 ∧
    result .setTime .setTime [1212, 1440, 0, 2] base = 3 := by decide +kernel

/-- A new worker table at 6000h with badges 10, 25 and 30. -/
def twoTables : State :=
  base.withMem (put (put (put image 0x6000 (record 10 1 4 255 0 1)) 0x6040 (record 25 1 4 255 0 1)) 0x6080 (record 30 1 4 255 0 1))

/-- The install of the new table in hand at the given phase. -/
def installing (p : Install) : State :=
  let s := holding .installWorkerTable [0x6000, 3] twoTables
  s.withEngine { s.engine with install := p }

/-- A carry past the given indices of the old and the new table. -/
def carryAt (old new : Nat) (cursor : Option Nat) : Carry :=
  { Carry.start { base := 0x6000, count := 3 } with oldNext := old, newNext := new, cursor := cursor }

theorem test_install_begins : (after .installWorkerTable (installing .idle)).engine.install = .verify { base := 0x6000, count := 3 } 0 := by
  decide +kernel
theorem test_verify_next : (after .verifyNextRecord (installing (.verify { base := 0x6000, count := 3 } 0))).engine.install =
    .verify { base := 0x6000, count := 3 } 1 := by decide +kernel
theorem test_carry_begin : (after .carryBegin (installing (.verify { base := 0x6000, count := 3 } 3))).engine.install =
    .carry (carryAt 0 0 none) := by decide +kernel
theorem test_matched_step : (after .matchedStep (installing (.carry (carryAt 0 0 none)))).engine.install =
    .carry { carryAt 1 1 (some 10) with matchedSteps := 1 } := by decide +kernel
theorem test_old_only_step : (after .oldOnlyStep (installing (.carry (carryAt 1 1 (some 10))))).engine.install =
    .carry { carryAt 2 1 (some 20) with oldOnlySteps := 1 } := by decide +kernel
theorem test_new_only_step : (after .newOnlyStep (installing (.carry (carryAt 2 1 (some 20))))).engine.install =
    .carry { carryAt 2 2 (some 25) with newOnlySteps := 1 } := by decide +kernel
theorem test_amend_worker : ((after .amendWorker (holding .amendWorker [10, 7, 1, 4, 100, 3, 1] base)).worker (ref 0)).suspended = true ∧
    result .amendWorker .amendWorker [11, 7, 1, 4, 100, 3, 1] base = 4 := by decide +kernel
theorem test_set_presence : ((after .setPresence (holding .setPresence [10, 2, 0] base)).worker (ref 0)).presence = .unknown := by
  decide +kernel
theorem test_take_totals : (after .takeTotals (holding .takeTotals [0, 2, 0x7000] base)).engine.takeTotals =
    some { first := 0, count := 2, dest := 0x7000, taken := 0, unsettled := 0 } := by decide +kernel

/-- TAKE TOTALS at its first worker, whose regular minutes are 60. -/
def taking (count : Nat) : State :=
  let s := holding .takeTotals [0, count, 0x7000] (base.setWorker (ref 0) { base.worker (ref 0) with regular := 60 })
  s.withEngine { s.engine with takeTotals := some { first := 0, count := count, dest := 0x7000, taken := 0, unsettled := 0 } }

theorem test_take_totals_worker : ((after .takeTotalsWorker (taking 2)).worker (ref 0)).regular = 0 ∧
    (after .takeTotalsWorker (taking 2)).load 0x7000 = 10 := by decide +kernel

/-- An exception of badge 10 PENDING in slot 0. -/
def pendingSlot : State := { base with mem := put base.mem 0x1180 [1, 2, 0, 10] }

theorem test_take_totals_bad_param : (let t := after .takeTotals (holding .takeTotals [1, 3, 0x7000] base);
    t.engine.takeTotals = none ∧ t.orders.inHand = none ∧ t.orders.current = 0x3100) := by decide +kernel
theorem test_settle_exception : slotState (after .settleException (holding .settleException [0, 2, 0, 0, 0, 0] pendingSlot)).mem
    { base := 0x1180, count := 2 } 0 = 0 ∧ result .settleException .settleException [1, 2, 0, 0, 0, 0] pendingSlot = 3 := by decide +kernel
theorem test_install_bell_table : (after .installBellTable (holding .installBellTable [0x5000, 0] base)).bells.pendingTable =
    some { base := 0x5000, count := 0 } := by decide +kernel
theorem test_install_shift_table : result .installShiftTable .installShiftTable [0x5002] base = 3 := by decide +kernel
theorem test_set_gate : (after .setGate (holding .setGate [0, 256, 300, 0, 0, 0, 25] base)).load 0x10A0 = 20 := by decide +kernel
theorem test_set_gate_bad_param : (after .setGate (holding .setGate [8, 256, 300, 0, 0, 0, 25] base)).load 0x3028 = 0 ∧
    result .setGate .setGate [8, 256, 300, 0, 0, 0, 25] base = 3 := by decide +kernel
theorem test_rearm_door : ((after .rearmDoor (holding .rearmDoor [0] (base.setDoor 0
    { door with state := .outOfService, overcurrentHold := true }))).door 0).state = .idle := by decide +kernel
theorem test_free_passage : ((after .freePassage (holding .freePassage [1, 10] (atDoor holdDoor [] base))).door 0).freeEnd =
    some (1212 * 1440 + 365) := by decide +kernel
theorem test_free_passage_in_stopping : let t := after .freePassage (holding .freePassage [1, 10] (atDoor holdDoor []
      { base with control := { base.control with runState := .stopping } }));
    (t.door 0).freeEnd = none ∧ t.load 0x3014 = 1 := by decide +kernel
theorem test_ring : ((after .ring (holding .ring [1, 0, 10, 5] base)).line 0).state = .delay := by decide +kernel
theorem test_ring_in_stopping : ((after .ring (holding .ring [1, 0, 10, 5]
    { base with control := { base.control with runState := .stopping } })).line 0).state = .idle := by decide +kernel
theorem test_silence_bells : (after .silenceBells (holding .silenceBells [20] base)).bells.silenceEnd = some (1212 * 1440 + 375) := by
  decide +kernel
theorem test_clear_status : ((after .clearStatus (holding .clearStatus [] (base.setDoor 0
    { door with flags := { DoorFlags.clear with overcurrent := true, forced := true } }))).door 0).flags.code = 1 := by decide +kernel
theorem test_journal_restart : (after .journalRestart (holding .journalRestart [] (base.withJournal
    { journal with used := 16, unreleased := 3, damaged := true }))).load 0x300C = 3 := by decide +kernel

/-! ### Doors: worked sequence "one punch through a door cycle" (08) -/

/-- The channel after the first twelve samples: MOVED just set. -/
def moved : State := after (.moved 0 (coil [80, 150, 220, 290, 330, 365, 380, 376, 352, 338, 325, 331])) (hitting hitDoor)

theorem test_moved : (moved.door 0).movement.substate = .seekValley ∧ (moved.door 0).movement.peakTime = 7 := by decide +kernel
theorem test_valley_complete : ((after (.valleyComplete 0 (coil [318, 318, 330, 362, 371, 384])) moved).door 0).measures =
    { peak := 380, valley := some 318, reaction := some 13, travel := some 6 } := by decide +kernel
theorem test_hit_end_at_maximum : ((after (.hitEnd 0 (coil (List.replicate 120 200))) (hitting hitDoor)).door 0).flags.code =
    8 + 16 := by decide +kernel
theorem test_hit_end_passes_the_slot : (let t := after (.hitEnd 0 (coil (List.replicate 120 200))) (behind (some (.door 1)) (hitting hitDoor));
    t.arbiter.holder = some (.door 1) ∧ (t.door 1).state = .hit) := by decide +kernel
theorem test_open_timer : ((after (.openTimerExpiry 0) (atDoor holdDoor [punch .inward none] base)).queue 0).map Punch.report =
    [some .notPassed] := by decide +kernel
/-- One worker twice in the queue: the report names the served entry alone (R130, log entry 72). -/
theorem test_open_timer_reports_one_entry :
    ((after (.openTimerExpiry 0) (atDoor holdDoor [punch .inward none, punch .outward none] base)).queue 0).map Punch.report =
    [some .notPassed, none] := by decide +kernel
theorem test_contact_opening : ((after (.contactOpening 0 (List.replicate 20 .opened))
    (atDoor holdDoor [punch .inward none] base)).queue 0).map Punch.report = [some .passed] := by decide +kernel
theorem test_contact_closing : ((after (.contactClosing 0 (List.replicate 20 .closed)) (base.setDoor 0
    { door with state := .closing, contact := .opened, rawLevel := .opened })).door 0).state = .idle := by decide +kernel
theorem test_contact_taken : ((after (.contactTaken 0 (List.replicate 20 .opened)) (base.setDoor 0
    { door with settling := true, rawRun := 0 })).door 0).state = .closing := by decide +kernel
theorem test_held_open : ((after (.heldOpen 0) (base.setDoor 0
    { door with state := .closing, contact := .opened, heldTimer := some 400 })).door 0).flags.code = 64 := by decide +kernel
/-- A standing open that follows one ended in FREE, where held-open unresolved stands, makes its own notice (R137, R144). -/
theorem test_held_open_after_free : (let free := after (.contactClosing 0 (List.replicate 20 .closed)) (base.setDoor 0 { door with
      state := .free, contact := .opened, rawLevel := .opened, heldUnresolved := true, heldRaised := true });
    (after (.heldOpen 0) (free.setDoor 0 { free.door 0 with
      state := .closing, contact := .opened, heldTimer := some 400 })).journal.used) = 4 := by decide +kernel
theorem test_overcurrent : ((after (.overcurrent 0 (coil [3750, 3750, 3750])) (hitting hitDoor)).door 0).state = .outOfService := by
  decide +kernel
theorem test_overcurrent_runs_held_timer : ((after (.overcurrent 0 (coil [3750, 3750, 3750]))
    (hitting { hitDoor with contact := .opened })).door 0).heldTimer = some 1000 := by decide +kernel
theorem test_open_load : ((after (.openLoadTest 0 false) base).door 0).flags.code = 2 := by decide +kernel
theorem test_resistance_window : ((after (.resistanceWindow 0 (coil (List.replicate 100 250))) (atDoor holdDoor [] base)).door 0).lastResistance =
    2400 := by decide +kernel
theorem test_stretch_timer : (after .stretchTimerExpiry
    { base with control := { base.control with alarm := true, stretch := some 960 } }).control.alarm = false := by decide +kernel

/-! ### Supply, bells, journal -/

theorem test_supply_low : (after (.supplyLow [189, 189, 189]) base).supply.state = .low := by decide +kernel
theorem test_supply_low_voids : ((after (.supplyLow [189, 189, 189]) (hitting hitDoor)).queue 0).map Punch.report =
    [some (.voided .supply)] := by decide +kernel
theorem test_supply_normal : (after (.supplyNormal (List.replicate 100 206))
    { base with supply := { state := .low, lowRun := 0, recoveryRun := 0 } }).supply.state = .normal := by decide +kernel
theorem test_free_send : ((after (.pendingFreeSendDue 0) ((atDoor holdDoor [] base).setFreeSend 0
    (some { sendTime := base.time.absTick, endMinute := 7, entry := 0 }))).door 0).freePending = true := by decide +kernel
theorem test_bell_claim : (after (.bellClaim 0) (atLine (line .delay))).arbiter.holder = some (.line 0) := by decide +kernel
theorem test_pulse_start : ((after (.pulseStart 0) (atLine { line .claim with granted := true })).line 0).phaseEnds = 1020 := by
  decide +kernel
theorem test_bell_slot_release : (after (.bellSlotRelease 0) { atLine { line .on with releaseAt := some 1000 } with
    arbiter := { holder := some (.line 0), requests := [.door 3] } }).arbiter.holder = some (.door 3) := by decide +kernel
theorem test_pulse_end : ((after (.pulseEnd 0) (atLine { line .on with pulsesDone := 1 })).line 0).state = .gap := by decide +kernel
/-- STOPPING with the RUN request as given. -/
def stopping (run : Bool) (s : State) : State := s.withControl { s.control with runState := .stopping, runRequest := run }

theorem test_settle_end_ends_the_stop : (after (.settleEnd 0) (stopping false (atLine (line .settle)))).control.runState = .stopped ∧
    (after (.settleEnd 0) (stopping true (atLine (line .settle)))).control.runState = .starting := by decide +kernel
theorem test_settle_end : ((after (.settleEnd 0) (atLine (line .settle))).line 0).state = .idle := by decide +kernel

/-- Worked sequence "a small journal under a rush": at the walk of the second (11). -/
def rush : State :=
  let m := put base.mem 60 [503]
  let m := put m (0x2000 + 4 * 44) [3 * 2 ^ 28 + 501]
  let m := put m (0x2000 + 4 * 48) [2 * 2 ^ 28 + 2 ^ 27 + 502]
  let m := put m (0x2000 + 4 * 56) [3 * 2 ^ 28 + 503]
  let m := put m (0x2000 + 4 * 60) [15 * 2 ^ 28]
  { base with mem := put m 0x2000 [2 * 2 ^ 28 + 2 ^ 27 + 504], journal := { journal with
    readPos := 0x2000 + 4 * 44, writePos := 0x2000 + 48, used := 32, unreleased := 5, oldestSeq := 501, nextSeq := 506 } }

theorem test_release_walk : (after .releaseWalk rush).journal =
    { rush.journal with readPos := 0x2000, used := 12, unreleased := 2, oldestSeq := 504 } := by decide +kernel
theorem test_room_after_a_walk : let r := (rush.withJournal { rush.journal with reserved := 20 }).requestRoom 24;
    r.1 = true ∧ r.2.journal.used = 12 := by decide +kernel
theorem test_damage_recheck : (after .damageRecheck (rush.withJournal { rush.journal with damaged := true })).journal.damaged =
    false := by decide +kernel
theorem test_journal_hold : (after .journalHoldExpiry (base.withJournal { journal with holdTimer := some 980 })).holdActive =
    false := by decide +kernel

/-! ### Witnesses: the hypotheses of each statement are met

Each theorem is named after the statement; its conjuncts are the hypotheses of the clauses, at boundary values where a clause has
a range. -/

/-- A step about to be taken with a coil in its hit, the slot held and a punch in flight. -/
def busy : State := { hitting hitDoor with journal := { journal with reserved := 12 }, pending := [.tick] }

theorem witness_step : busy.pending = .tick :: [] ∧ base.pending = [] := ⟨rfl, rfl⟩
theorem witness_word : Memory.wf image = true := by decide +kernel
theorem witness_every_step_keeps_memory : Memory.wf busy.mem = true ∧ busy.betweenEvents ∧ ∃ t, step busy = .next t :=
  ⟨by decide +kernel, rfl, _, rfl⟩
theorem witness_every_step_keeps_time : busy.time.inRange ∧ ∃ t, step busy = .next t :=
  ⟨by unfold TimeBase.inRange; decide +kernel, _, rfl⟩
theorem witness_every_step_keeps_slot : busy.slotLaw ∧ ∃ t, step busy = .next t :=
  ⟨⟨⟨by decide +kernel, fun _ _ => List.not_mem_nil⟩, by decide +kernel, by decide +kernel, by decide +kernel⟩, _, rfl⟩
theorem witness_every_step_keeps_drive : busy.driveLaw ∧ ∃ t, step busy = .next t := ⟨by unfold State.driveLaw; decide +kernel, _, rfl⟩
theorem witness_every_step_keeps_free : busy.freeLaw ∧ ∃ t, step busy = .next t := ⟨by unfold State.freeLaw; decide +kernel, _, rfl⟩
theorem witness_free_law_in_stopping : (holding .freePassage [255, 1440] { base with control := { base.control with runState := .stopping } }).freeLaw := by
  unfold State.freeLaw; decide +kernel
theorem witness_every_step_keeps_punches : busy.punchLaw ∧ busy.queuesFit ∧ ∃ t, step busy = .next t :=
  ⟨by unfold State.punchLaw State.restLaw; decide +kernel, by unfold State.queuesFit; decide +kernel, _, rfl⟩
/-- The journal just full: 52 words used and the 12 of the punch in flight. -/
def full : State := { busy with journal := { busy.journal with used := 52 } }

theorem witness_every_step_keeps_room : full.punchLaw ∧ full.roomLaw ∧ 52 + 12 = full.journal.capacity ∧ ∃ t, step full = .next t :=
  ⟨by unfold State.punchLaw State.restLaw; decide +kernel, fun r h => by
    have : r = region := Option.some.inj (h.symm.trans rfl)
    subst this
    exact ⟨by unfold Journal.placed; decide +kernel, by decide⟩, by decide, _, rfl⟩
theorem witness_every_step_keeps_alarm : busy.alarmLaw ∧ ∃ t, step busy = .next t := ⟨by unfold State.alarmLaw; decide +kernel, _, rfl⟩

theorem placed : journal.placed region := by unfold Journal.placed; decide +kernel

/-- RUNNING with the status block of the reset state published at 1800h. -/
def published : State :=
  { base with mem := writeWords [] 0x1800 State.reset.statusWords, control := { base.control with statusBlock := some 0x1800 } }

theorem witness_event_end : published.betweenEvents ∧ Memory.wf published.mem = true ∧ published.control.statusBlock = some 0x1800 ∧
    readWords published.mem 0x1800 statusWordCount = State.reset.statusWords := by decide +kernel

/-- A notice, and the journal just with room for it, without room and damaged, and not held. -/
def setNotice : JRecord := timeNotice .set none 5 0 0 0

theorem witness_notice : setNotice.kind.long = false ∧ setNotice.body.length = 3 ∧ State.reset.control.runState = .stopped ∧
    base.control.runState = .running ∧ ({ base with journal := .reset } : State).journal.region = none ∧
    (base.withJournal { journal with used := 61, damaged := true }).journal.freeWords < 4 ∧
    Memory.wf base.mem = true ∧ 4 ≤ (base.withJournal { journal with used := 60 }).journal.freeWords := by decide +kernel
theorem witness_notice_place : (base.withJournal { journal with used := 60 }).journal.placed region := placed

theorem witness_out_of_place : (base.link 0).exchange = none ∧ (asked.link 0).exchange ≠ none ∧ base.engine.handed.length ≤ 0 ∧
    base.queue 0 = [] ∧ base.orders.inHand = none ∧ base.orders.walking = false ∧ (holding .ring [] base).orders.inHand ≠ none ∧
    base.engine.install = .idle ∧ base.engine.takeTotals = none ∧ base.engine.sweep ≠ .running ∧ base.control.runState ≠ .starting ∧
    (base.door 0).state ≠ .hold ∧ (base.door 0).contact = .closed ∧ (base.line 0).state ≠ .on ∧ (base.line 0).state ≠ .settle ∧
    (base.line 0).state ≠ .claim ∧ base.journal.damaged = false := by decide +kernel

/-- The worker at index 0, as 13.2 reads its words. -/
theorem worker_zero : base.worker (ref 0) =
    { badge := 10, number := 1010, group := 1, rule := 4, mask := 255, suspended := false, exempt := false, early := false,
      windowEnforced := false, noPay := false, rate := 18400, presence := .outside, inFlight := none, openIn := none, rd := 0,
      rdDay := none, lastReader := none, lastStamp := none, regular := 0, overtime := 0, night := 0, amount := 0, pairs := 0,
      saturated := false, pendingCount := 0 } := by decide +kernel

theorem worker_zero_in_range : (base.worker (ref 0)).inRange := by
  rw [worker_zero]
  simp [Worker.inRange]

theorem witness_worker_record : Memory.wf base.mem = true ∧ (base.worker (ref 0)).inRange := ⟨by decide +kernel, worker_zero_in_range⟩

theorem witness_lookup : (∀ j, j < 3 → ∀ i, i < j → badgeAt image 0x400 i < badgeAt image 0x400 j) ∧ badgeAt image 0x400 2 = 30 ∧
    ∀ i, i < 3 → badgeAt image 0x400 i ≠ 11 := by decide +kernel
theorem witness_amount : 1048575 ≤ 1048575 ∧ 32 ≤ 32 ∧ 480 + 480 ≤ 960 ∧ 960 ≤ 960 := by decide
theorem witness_stages : (PayRule.read image 0x800 4).valid = true := by decide +kernel
/-- The finding at 06:00 of Tuesday, day 1212, in a window that opens at 04:00; and of a stamp in the window of the day before. -/
theorem witness_finding : (base.engine.shift = some 0x800 ∧ base.time.clock ≠ .unset ∧ base.time.inRange) ∧
    (let e := DayEntry.read image 0x800 (1 * 7 + 2);
      e.valid = true ∧ 0 < e.length ∧ e.early = 120 ∧ e.start = 360 ∧
      ((1212 * 1440 + 21600 / 60 : Int) - (1212 * 1440 + 360 - 120 + 120)) % 94370400 = 0) ∧
    (∃ k : Int, -32767 ≤ k ∧ k ≤ 32767 ∧ ((1212 : Int) - 1212 - k) % 65535 = 0 ∧ ((2 : Int) - k - 2) % 7 = 0) ∧
    (∃ k : Int, -32767 ≤ k ∧ k ≤ 32767 ∧ ((1212 : Int) - 1211 - k) % 65535 = 0 ∧ ((2 : Int) - k - 1) % 7 = 0) ∧
    (base.finding 1 (some { day := 1212, second := 14399 }) = none ∧
      (base.finding 1 (some { day := 1212, second := 14400 })).map Found.day = some 1212) :=
  ⟨by unfold TimeBase.inRange; decide +kernel, by decide +kernel, ⟨0, by decide⟩, ⟨1, by decide⟩, by decide +kernel⟩
/-- The times of worked case A on the line of the day before (06). -/
theorem witness_unroll : (-2831112000 ≤ (86400 + 21160 : Int) ∧ ((1212 * 86400 + 21160 : Int) - 1211 * 86400 - (86400 + 21160)) % 5662224000 = 0) ∧
    openIn.start = some (1212, 360) ∧ ((1212 * 86400 + 360 * 60 : Int) - 1211 * 86400 - (86400 + 21600)) % 5662224000 = 0 := by decide +kernel
theorem witness_resets : base.betweenEvents ∧ base.orders.walking = false ∧ (holding .ring [] base).orders.inHand ≠ none := by
  decide +kernel

/-! #### Time and readers -/

/-- After the roll to 05:59:00, at 05:59:00.15. -/
def rolled : State :=
  locked.withTime { locked.time with tick := 3, second := 0, minute := 359, lm := some 1728359, silence := 1 }

theorem witness_tick : base.betweenEvents ∧ ¬ (base.time.tick = 19 ∧ base.time.second = 59) ∧ locked.time.tick = 19 ∧
    locked.time.second = 59 := by decide +kernel
theorem witness_tick_lost : let s := locked.withTime { locked.time with silence := 2, lm := some 1728359 }
    s.time.clock = .locked ∧ 3 ≤ s.time.silence + 1 ∧ lmBehind s.time.lm (1200 * 1440 + 359) = false := by decide +kernel
theorem witness_mark_refused : (1 + 2 + 3 + 4 : Byte) ≠ 0 ∧ 1439 < (5 : Byte).toNat * 256 + (160 : Byte).toNat ∧ 6 < (7 : Byte).toNat := by
  decide
theorem witness_mark : (1 + 103 + 2 + 150 : Byte) = 0 ∧ 359 = (1 : Byte).toNat * 256 + (103 : Byte).toNat ∧
    State.reset.time.clock = .unset ∧ rolled.time.clock = .locked ∧ rolled.time.lastMark = some { minute := 358, dow := 2 } ∧
    ({ minute := 359, dow := 2 } : ClockMark) = ClockMark.next { minute := 358, dow := 2 } ∧ rolled.time.lm = some 1728359 ∧
    rolled.time.impliedMinute { minute := 359, dow := 2 } = 1728359 ∧ rolled.time.ticksPast 1728359 = 3 ∧ rolled.betweenEvents := by
  decide +kernel
theorem witness_mark_duplicate : ({ minute := 358, dow := 2 } : ClockMark) ≠ ClockMark.next { minute := 358, dow := 2 } ∧
    ({ minute := 390, dow := 2 } : ClockMark) ≠ ClockMark.next { minute := 358, dow := 2 } ∧
    ({ minute := 390, dow := 2 } : ClockMark) ≠ { minute := 358, dow := 2 } := by decide

/-- Position 0 PROBING and not yet due, position 1 OFFLINE and just due. -/
def probing : State :=
  (base.setReader 0 { base.reader 0 with state := .probing, probeDue := base.time.absTick + 1 }).setReader 1
    { base.reader 1 with state := .offline, probeDue := base.time.absTick }

theorem witness_poll : probing.betweenEvents ∧ (probing.link 0).exchange = none ∧
    (probing.reader (positionOf 0 1)).due probing.time.absTick = true ∧
    ∀ x : Fin 4, (x - (probing.link 0).nextAddress).val < ((1 : Fin 4) - (probing.link 0).nextAddress).val →
      (probing.reader (positionOf 0 x)).due probing.time.absTick = false := by decide +kernel

/-- The exchange in progress of `asked`, with its position as given. -/
def askedOf (r : Reader) : State := asked.setReader 0 r

theorem witness_failed_exchange : (asked.betweenEvents ∧ (asked.link 0).exchange = some { address := 0, frame := [] } ∧
      (asked.reader 0).state = .online ∧ (asked.reader 0).failRun + 1 < 5 ∧
      5 ≤ ((askedOf { asked.reader 0 with failRun := 4 }).reader 0).failRun + 1 ∧
      ((askedOf { asked.reader 0 with state := .probing }).reader 0).state ≠ .online ∧ ([] : List Byte).length ≠ 10 ∧
      (response 7 3).length = 10 ∧ (response 7 3).getD 0 0 = 0xC5 ∧ ((response 7 3).set 9 0).getD 9 0 ≠
        checkByte ((((response 7 3).set 9 0).drop 1).take 8)) ∧ asked.noticeRoom 1 :=
  ⟨by decide +kernel, fun _ => by decide +kernel⟩

theorem witness_good_response : (asked.betweenEvents ∧ (response 7 99).length = 10 ∧ (response 7 99).getD 0 0 = 0xC5 ∧
      (response 7 99).getD 9 0 = checkByte (((response 7 99).drop 1).take 8) ∧ ((response 7 99).getD 1 0).toNat = 0 ∧
      ((response 7 99).getD 2 0).toNat = 0 ∧ ((response 7 99).getD 8 0).toNat < 100 ∧ ((response 7 99).getD 3 0).toNat / 16 % 2 = 1 ∧
      (asked.reader 0).lastReport = some (((response 6 3).getD 3 0).toNat % 16) ∧
      (asked.reader 0).lastReport ≠ some (((response 7 99).getD 3 0).toNat % 16) ∧ (asked.reader 0).placed = some (0, .entry)) ∧
    asked.noticeRoom 1 := ⟨by decide +kernel, fun _ => by decide +kernel⟩
theorem witness_good_response_rising : (let b := [0xC5, 0, 3, 64, 0, 0, 0, 0, 0, checkByte [0, 3, 64, 0, 0, 0, 0, 0]];
      b.getD 9 0 = checkByte ((b.drop 1).take 8) ∧ (b.getD 2 0).toNat % 2 = 1 ∧ (b.getD 2 0).toNat / 2 % 2 = 1 ∧
      (b.getD 3 0).toNat / 16 % 2 = 0 ∧ (asked.reader 0).tamper = false ∧ (asked.reader 0).sensorFault = false) ∧
    100 ≤ ((response 7 100).getD 8 0).toNat ∧ asked.noticeRoom 2 :=
  ⟨by decide +kernel, by decide +kernel, fun _ => by decide +kernel⟩
theorem witness_good_response_online : let b : List Byte := [0xC5, 0, 0, 64, 0, 0, 0, 0, 0, checkByte [0, 0, 64, 0, 0, 0, 0, 0]]
    b.getD 9 0 = checkByte ((b.drop 1).take 8) ∧ (b.getD 3 0).toNat / 16 % 2 = 0 ∧
      ((response 7 99).getD 3 0).toNat / 16 % 2 = 1 ∧ ((askedOf { asked.reader 0 with state := .offline }).reader 0).placed = some (0, .entry) ∧
      ((askedOf { asked.reader 0 with state := .offline }).reader 0).state = .offline := by decide +kernel

/-! #### Presentations, commits, the sweep -/

/-- The presentation of a badge at the entry of gate 0. -/
def shown (role : Role) (badge : Nat) : Presentation :=
  { position := 0, gate := 0, role := role, badge := badge, stamp := some { day := 1212, second := 21300 } }

/-- The journal with the 44 words that a presentation needs just free. -/
def tight : State := base.withJournal { journal with used := 20 }

theorem apart_of (s : State) (h1 : s.journal.region = some region) (h2 : s.control.statusBlock = none)
    (h3 : s.engine.exceptions = some { base := 0x1180, count := 2 }) : s.recordApart (ref 0) := by
  refine ⟨fun r h => ?_, fun b h => ?_, fun t h => ?_⟩
  · have : r = region := Option.some.inj (h.symm.trans h1)
    subst this
    decide
  · rw [h2] at h
    cases h
  · have : t = { base := 0x1180, count := 2 } := Option.some.inj (h.symm.trans h3)
    subst this
    decide

theorem waits_of (s : State) (h1 : s.engine.sweep = .idle) (h2 : s.engine.install = .idle) : s.noneWaitsForRoom := by
  unfold State.noneWaitsForRoom
  rw [h1, h2]
  decide

theorem witness_turned_away : ((presented .entry 11 tight).betweenEvents ∧
      (presented .entry 11 tight).engine.handed[0]? = some (shown .entry 11) ∧
      (presented .entry 11 State.reset).control.runState ≠ .running ∧ Memory.wf tight.mem = true ∧ tight.control.runState = .running ∧
      tight.journal.holdLevel + 44 = tight.journal.freeWords ∧ (tight.gateEntry 0).oneReader = false ∧ tight.lookup 11 = none ∧
      tight.lookup 30 = some (ref 2) ∧ (tight.worker (ref 2)).suspended = true) ∧ tight.noneWaitsForRoom ∧ tight.journal.placed region :=
  ⟨by decide +kernel, waits_of _ rfl rfl, placed⟩

/-- Worker 10 may pass gates 1 to 7 alone. -/
def masked : State := tight.withMem (put tight.mem 0x408 [129 + 254 * 512])

theorem witness_turned_away_by_mask : masked.lookup 10 = some (ref 0) ∧ (masked.worker (ref 0)).suspended = false ∧
    maskBit (masked.worker (ref 0)).mask (0 : Gate).val = false := by decide +kernel

theorem witness_accepted : (tight.betweenEvents ∧ Memory.wf tight.mem = true ∧
      (presented .entry 10 tight).engine.handed[0]? = some (shown .entry 10) ∧ tight.control.runState = .running ∧
      tight.journal.region.isSome = true ∧ tight.journal.holdLevel + 44 ≤ tight.journal.freeWords ∧ tight.lookup 10 = some (ref 0) ∧
      (tight.gateEntry 0).oneReader = false ∧ (tight.worker (ref 0)).suspended = false ∧
      maskBit (tight.worker (ref 0)).mask (0 : Gate).val = true ∧ (tight.door 0).equipped = true ∧ (tight.door 0).state = .idle ∧
      tight.supply.state = .normal ∧ isRepeat (tight.gateEntry 0).repeatWindow (tight.worker (ref 0)) (shown .entry 10) = false ∧
      (tight.worker (ref 0)).inFlight = none ∧ (tight.worker (ref 0)).presence = .outside ∧
      (tight.worker (ref 0)).windowEnforced = false ∧ (tight.queue 0) = [] ∧ (tight.door 0).freePending = false ∧
      tight.arbiter = { holder := none, requests := [] } ∧ ((tight.setDoor 0 hitDoor).door 0).state ≠ .idle) ∧
    (tight.worker (ref 0)).inRange ∧ tight.recordApart (ref 0) :=
  ⟨by decide +kernel, worker_zero_in_range, apart_of _ rfl rfl rfl⟩

/-- The last punch of a stop that nothing else holds, for each outcome. -/
theorem witness_commits_in_stopping : (let s := stopping true (reported .outward (.voided .supply));
      s.control.runState = .stopping ∧ s.queue 0 = [punch .outward (some (.voided .supply))] ∧ (∀ g, g ≠ 0 → s.queue g = []) ∧
      (∀ n, (s.line n).state = .idle) ∧ s.orders.walking = false) ∧
    (stopping false (reported .inward .passed)).noneWaitsForRoom ∧ (stopping false caseA).control.runState = .stopping ∧
    (stopping true (holding .ring [1] base)).control.runState = .stopping :=
  ⟨by decide +kernel, waits_of _ rfl rfl, rfl, rfl⟩
theorem witness_ended : (let s := reported .outward (.voided .supply);
      s.betweenEvents ∧ Memory.wf s.mem = true ∧ s.queue 0 = punch .outward (some (.voided .supply)) :: [] ∧
      (reported .inward .notPassed).queue 0 = punch .inward (some .notPassed) :: [] ∧ s.control.runState = .running ∧
      s.journal.region = some region ∧ 12 ≤ s.journal.reserved) ∧
    (let s := reported .outward (.voided .supply);
      s.noneWaitsForRoom ∧ s.journal.placed region ∧ (s.worker (ref 0)).inRange ∧ s.recordApart (ref 0)) :=
  ⟨by decide +kernel, waits_of _ rfl rfl, placed, worker_zero_in_range, apart_of _ rfl rfl rfl⟩

theorem witness_commit_in : (let s := reported .inward .passed;
      s.betweenEvents ∧ Memory.wf s.mem = true ∧ s.queue 0 = punch .inward (some .passed) :: [] ∧ s.control.runState = .running ∧
      (s.worker (ref 0)).openIn = none ∧ s.journal.region = some region ∧ 12 ≤ s.journal.reserved ∧
      (s.finding 1 (some { day := 1212, second := 21300 })).isSome = true) ∧
    (let s := reported .inward .passed;
      s.noneWaitsForRoom ∧ s.journal.placed region ∧ (s.worker (ref 0)).inRange ∧ s.recordApart (ref 0)) :=
  ⟨by decide +kernel, waits_of _ rfl rfl, placed, worker_zero_in_range, apart_of _ rfl rfl rfl⟩

/-- The worker of worked case A, as 13.2 reads its words. -/
theorem worker_case : caseA.worker (ref 0) =
    { badge := 10, number := 1010, group := 1, rule := 4, mask := 255, suspended := false, exempt := false, early := false,
      windowEnforced := false, noPay := false, rate := 18400, presence := .inside, inFlight := some 0, openIn := some openIn, rd := 0,
      rdDay := some 1211, lastReader := none, lastStamp := none, regular := 1920, overtime := 60, night := 0, amount := 650000,
      pairs := 4, saturated := false, pendingCount := 0 } := by decide +kernel

theorem witness_commit_out : (caseA.betweenEvents ∧ Memory.wf caseA.mem = true ∧ (caseA.queue 0).length = 1 ∧
      caseA.control.runState = .running ∧ (caseA.worker (ref 0)).openIn = some openIn ∧ caseA.journal.region = some region ∧
      12 ≤ caseA.journal.reserved ∧ caseA.payRule 4 = some (PayRule.read image 0x800 4) ∧ (caseA.worker (ref 0)).noPay = false ∧
      (let x := pairStages (PayRule.read image 0x800 4) (caseA.closeLimits 1 openIn.start) (caseA.worker (ref 0)) openIn
          { day := 1212, second := 21160 } { day := 1212, second := 54440 };
        x.overLimit = false ∧ (caseA.worker (ref 0)).fits x = true) ∧
      ((caseA.withMem (put caseA.mem 0x408 [129 + 255 * 512 + 16 * 131072])).worker (ref 0)).noPay = true) ∧
    caseA.noneWaitsForRoom ∧ caseA.journal.placed region ∧ (caseA.worker (ref 0)).inRange ∧ caseA.recordApart (ref 0) :=
  ⟨by decide +kernel, waits_of _ rfl rfl, placed, by rw [worker_case]; simp [Worker.inRange, openIn], apart_of _ rfl rfl rfl⟩

/-- The sweep at its last worker, who has no open-in. -/
def sweepEnd : State := base.withEngine { base.engine with sweep := .running, sweepCursor := 2 }

theorem witness_sweep : (sweepEnd.betweenEvents ∧ sweepEnd.control.runState = .running ∧ sweepEnd.engine.sweep = .running ∧
    sweepEnd.engine.workers = some { base := 0x400, count := 3 } ∧ (sweepEnd.worker (ref 2)).openIn = none ∧
    ¬ sweepEnd.engine.sweepCursor + 1 < 3) ∧ (base.worker (ref 0)).openIn = none := by decide +kernel
theorem witness_sweep_off_shift : ((sweeping.worker (ref 0)).inFlight = none ∧
      (sweeping.worker (ref 0)).openIn.map OpenIn.start = some none ∧
      offShiftDue sweeping.time.stamp (some { day := 1211, second := 21320 }) = true ∧ sweeping.journal.region = some region ∧
      sweeping.engine.install.inCarry = false ∧ Memory.wf sweeping.mem = true ∧
      12 ≤ (sweeping.withJournal { journal with used := 52 }).journal.freeWords ∧ sweeping.engine.sweepCursor + 1 < 3 ∧
      (sweeping.withJournal { journal with used := 53, damaged := true }).journal.freeWords < 12) ∧
    sweeping.journal.placed region ∧ sweeping.recordApart (ref 0) := ⟨by decide +kernel, placed, apart_of _ rfl rfl rfl⟩

/-! #### Orders -/

theorem witness_order_pointer : base.betweenEvents ∧ (3 : Word) ≠ 0 ∧ base.control.runState = .running ∧ base.orders.walking = false ∧
    State.reset.control.runState ≠ .running ∧ (walking []).orders.walking = true ∧ (walking []).orders.inHand = none ∧
    (holding .ring [] base).orders.inHand.map InHand.order = some .ring ∧
    (∀ p, (installing p).orders.walking = true ∧ (installing p).orders.inHand.map InHand.order = some .installWorkerTable ∧
      (installing p).control.runState = .running ∧ (installing p).engine.install = p) :=
  ⟨rfl, by decide +kernel, rfl, rfl, by decide +kernel, rfl, rfl, rfl, fun _ => ⟨rfl, rfl, rfl, rfl⟩⟩
theorem witness_order_block : (walking []).betweenEvents ∧ (walking []).orders.walking = true ∧ (walking []).orders.inHand = none ∧
    field ((walking [1, 10 + 256]).load 0x3004) 0 8 = 10 ∧ field ((walking [1, 10 + 256]).load 0x3004) 8 8 = Order.paramCount .rearmDoor ∧
    field ((walking [1, 16]).load 0x3004) 0 8 = 16 ∧ field ((walking [1, 10]).load 0x3004) 8 8 ≠ Order.paramCount .rearmDoor ∧
    0x100000 < 0xFFFF8 + 12 := by decide +kernel
theorem witness_answer : Memory.wf base.mem = true ∧ (holding .ring [1] base).orders.inHand.map InHand.order = some .ring ∧
    base.control.runState = .running := by decide +kernel
theorem witness_set_time : (let s := holding .setTime [65534, 1439, 59, 6] base;
      s.betweenEvents ∧ s.orders.inHand.map InHand.order = some .setTime ∧ s.control.runState = .running ∧
      s.orders.inHand.map (fun h => (h.param 0, h.param 1, h.param 2, h.param 3)) = some (65534, 1439, 59, 6)) ∧ base.noticeRoom 1 :=
  ⟨by decide +kernel, fun _ => by decide +kernel⟩
theorem witness_install : (installing .idle).betweenEvents ∧ (installing .idle).engine.install = .idle ∧
    (∀ r ∈ (installing .idle).liveRegions, overlaps 0x6000 48 r.1 r.2 = false) ∧ recordPasses twoTables.mem { base := 0x6000, count := 3 } 0 = true ∧
    recordPasses twoTables.mem { base := 0x6000, count := 4 } 3 = false ∧ (installing .idle).engine.sweep = .idle ∧
    (holding .installWorkerTable [0x6000, 8193] base).orders.inHand.map (fun h => h.param 1) = some 8193 := by decide +kernel

/-- The carry at its first badge, whose worker has a punch in flight. -/
def carried : State := (installing (.carry (carryAt 0 0 none))).withMem (put twoTables.mem 0x410 [0])

theorem witness_carry : (installing (.carry (carryAt 0 0 none))).betweenEvents ∧
    carried.carryNext { base := 0x400, count := 3 } (carryAt 0 0 none) = .both 10 ∧ (carried.worker (ref 0)).inFlight ≠ none ∧
    (twoTables.worker (ref 0)).inFlight = none ∧
    twoTables.carryNext { base := 0x400, count := 3 } (carryAt 1 1 (some 10)) = .oldOnly 20 ∧
    (twoTables.worker (ref 1)).inFlight = none ∧ (twoTables.worker (ref 1)).departure = [] ∧
    twoTables.carryNext { base := 0x400, count := 3 } (carryAt 2 1 (some 20)) = .newOnly 25 ∧
    twoTables.carryNext { base := 0x400, count := 3 } (carryAt 2 2 (some 25)) ≠ .finished ∧
    twoTables.carryNext { base := 0x400, count := 3 } (carryAt 3 2 (some 20)) = .newOnly 30 ∧
    twoTables.carryNext { base := 0x400, count := 3 } (carryAt 3 3 (some 30)) = .finished ∧
    twoTables.engine.sweepPending = false := by decide +kernel
theorem witness_host_edits : (let s := holding .amendWorker [10, 7, 31, 15, 1048575, 255, 31] base;
      s.betweenEvents ∧ s.control.runState = .running ∧ s.orders.inHand.map (fun h => (h.param 4, h.param 6)) = some (1048575, 31) ∧
      s.lookup 10 = some (ref 0) ∧ s.lookup 11 = none ∧ (s.worker (ref 0)).inFlight = none ∧ (s.worker (ref 0)).openIn = none ∧
      ((base.withMem (put image 0x410 [0])).worker (ref 0)).inFlight ≠ none) ∧ (base.worker (ref 0)).inRange :=
  ⟨by decide +kernel, worker_zero_in_range⟩
theorem witness_take_totals : (holding .takeTotals [1, 2, 0x7000] base).betweenEvents ∧ base.engine.takeTotals = none ∧ 1 + 2 ≤ 3 ∧
    (∀ r ∈ (holding .takeTotals [1, 2, 0x7000] base).liveRegions, overlaps 0x7000 16 r.1 r.2 = false) ∧
    (taking 2).engine.takeTotals.isSome = true ∧ ¬ 0 + 1 < 1 := by decide +kernel
/-- A range one past the table, and destinations off a word, over the end of common memory by one entry, and on the last live record. -/
theorem witness_take_totals_bad : (holding .takeTotals [1, 3, 0x7000] base).orders.inHand.map (fun h => (h.order, h.param 0 + h.param 1)) =
      some (.takeTotals, 4) ∧ 3 < 4 ∧ 0x7002 % 4 ≠ 0 ∧ 0x100000 < 0xFFFF0 + 32 * 1 ∧
    ∃ r ∈ base.liveRegions, overlaps 0x4BC (1 * 8) r.1 r.2 = true := by decide +kernel
theorem witness_settle : (holding .settleException [1, 1, 65535, 0, 0, 0] pendingSlot).betweenEvents ∧
    pendingSlot.engine.exceptions = some { base := 0x1180, count := 2 } ∧ slotState pendingSlot.mem { base := 0x1180, count := 2 } 0 = 1 ∧
    slotState pendingSlot.mem { base := 0x1180, count := 2 } 1 = 0 ∧
    pendingSlot.lookup (slotBadge pendingSlot.mem { base := 0x1180, count := 2 } 0) = some (ref 0) := by decide +kernel
/-- The first index past the slots, a choice and a value just out of range, and a slot whose badge no worker has. -/
theorem witness_settle_refused : (let s := holding .settleException [2, 3, 65536, 0, 0, 0] pendingSlot;
      s.control.runState = .running ∧ s.orders.inHand.map (fun h => (h.order, h.param 0, h.param 1, h.param 2)) =
        some (.settleException, 2, 3, 65536)) ∧
    (let m := put base.mem 0x1180 [1, 2, 0, 11];
      slotState m { base := 0x1180, count := 2 } 0 = 1 ∧
      (base.withMem m).lookup (slotBadge m { base := 0x1180, count := 2 } 0) = none) := by decide +kernel
theorem witness_table_installs : (let s := holding .installBellTable [0x1100, 1] base;
      s.betweenEvents ∧ s.control.runState = .running) ∧
    (∀ r ∈ (holding .installBellTable [0x5000, 128] base).liveRegions, overlaps 0x5000 512 r.1 r.2 = false) ∧
    bellTableFault image 0x5000 0 = none ∧ bellTableFault image 0x5000 1 = some 0 ∧ 128 < 129 ∧
    shiftTableFault [] 0x5000 = some 224 := by decide +kernel
theorem witness_set_gate : (let s := holding .setGate [0, 256, 300, 0, 0, 0, 25] base;
      s.betweenEvents ∧ s.control.gateTable = some 0x1000 ∧ Memory.wf s.mem = true ∧
      s.orders.inHand.map (fun h => (h.gateEntry.entry.outOfRange, h.gateEntry.exit.outOfRange, h.gateEntry.entry.position,
        h.gateEntry.exit.position, readerTaken s.mem 0x1000 0 h.gateEntry)) = some (false, false, some 0, some 1, false) ∧
      (s.door 0).state = .idle ∧ (s.door 0).freePending = false ∧ s.queue 0 = [] ∧ 0x1000 + 192 ≤ s.orders.current) ∧
    ((atDoor holdDoor [] base).door 0).state = .hold := by decide +kernel
theorem witness_rearm : (holding .rearmDoor [8] base).betweenEvents ∧ (base.door 0).overcurrentHold = false ∧
    ({ door with overcurrentHold := true, openLoadHold := true } : Door).openLoadHold = true ∧
    ({ door with overcurrentHold := true } : Door).contact = .closed := by decide +kernel
theorem witness_free_requests : (let s := holding .freePassage [1, 1440] (atDoor holdDoor [] base);
      s.betweenEvents ∧ s.control.runState = .running ∧ s.time.clock ≠ .unset ∧ s.freeRefusal 0 = none ∧ (s.door 0).state = .hold ∧
      (∀ g, ({ s with supply := { s.supply with state := .low } } : State).freeRefusal g ≠ none) ∧
      ((s.setDoor 0 { door with state := .free }).door 0).contact = .closed ∧
      tickReached s.time.absTick s.time.absTick = true) ∧ base.noticeRoom 1 := ⟨by decide +kernel, fun _ => by decide +kernel⟩
theorem witness_free_in_stopping : (let s := holding .freePassage [255, 1440] { base with control := { base.control with runState := .stopping } };
      s.betweenEvents ∧ s.control.runState = .stopping ∧ s.time.clock ≠ .unset ∧
      s.orders.inHand.map (fun h => (h.order, h.param 0, h.param 1)) = some (.freePassage, 255, 1440)) := by decide +kernel
theorem witness_bell_orders : (holding .ring [1, 15, 255, 255] base).betweenEvents ∧ base.control.runState = .running ∧
    base.supply.state = .normal ∧ (base.line 0).queue.length < 4 ∧ (atLine (line .on)).time.clock ≠ .unset ∧
    (∀ n, ((atLine (line .on)).line n).state ≠ .claim ∧
      (((atLine (line .on)).line n).state = .idle → ((atLine (line .on)).line n).queue = [])) := by decide +kernel
/-- A line of 4 instances, and line 0 in CLAIM behind a door, or with the slot. -/
theorem witness_bell_orders_full : (let p : Pattern := { entry := some 0, pulses := 2, onTime := 10, gap := 5, due := none };
      let s := holding .ring [1, 15, 255, 255] (base.setLine 0 { line .on with queue := [p, p, p, p] });
      4 ≤ (s.line 0).queue.length ∧ s.journal.freeWords = 64 ∧
      ({ s with supply := { state := .low, lowRun := 0, recoveryRun := 0 } } : State).supply.state = .low) ∧
    (let s := holding .silenceBells [1440] (atLine (line .claim));
      s.time.clock ≠ .unset ∧ (s.line 0).state = .claim ∧ (∀ n, n ≠ 0 → (s.line n).state ≠ .claim) ∧
      (∀ n, (s.line n).state = .idle → (s.line n).queue = []) ∧
      Claimant.line 0 ∈ ({ s with arbiter := { holder := some (.door 0), requests := [.line 0] } } : State).arbiter.requests) := by
  decide +kernel
/-- Line 0 in CLAIM with the slot, gate 1 next. -/
theorem witness_silence_passes : (let s := holding .silenceBells [1440] { (atLine (line .claim)).setDoor 1 { door with state := .claim } with
        arbiter := { holder := some (.line 0), requests := [.door 1] } };
      s.arbiter.holder = some (.line 0) ∧ Claimant.line 0 ∉ s.arbiter.requests ∧ (s.line 0).state = .claim ∧ (s.door 1).state = .claim ∧
      s.supply.state = .normal ∧ s.control.runState ≠ .faulted) := by decide +kernel
theorem witness_clear_status : (holding .clearStatus [] base).betweenEvents ∧ base.control.runState = .running ∧
    (holding .clearStatus [] base).orders.inHand.map InHand.order = some .clearStatus := by decide +kernel
theorem witness_journal_restart : ((holding .journalRestart [] base).betweenEvents ∧
    (holding .journalRestart [] base).orders.inHand.map InHand.order = some .journalRestart) ∧ base.noneWaitsForRoom :=
  ⟨by decide +kernel, waits_of _ rfl rfl⟩

/-! #### The run state -/

/-- STARTING as asked, over the memory given. -/
def starting (run : Bool) (m : Memory) : State :=
  { State.reset with mem := m, control := { Control.reset with runState := .starting, runRequest := run } }

/-- An anchor that names no worker record of note: one worker, no bell entry and no exception slot, 64 words of journal, the pay
rules with q 1 and overtime factor 8, no gate with a reader (13.1). -/
def startImage : Memory :=
  let rules : Memory := (List.range 16).flatMap fun i => [(0xF00 + 16 * i, 1), (0xF01 + 16 * i, 4)]
  let gates : Memory := (List.range 8).flatMap fun i => [(0x1000 + 20 * i, 64), (0x1001 + 20 * i, 64)]
  [(0, 0x16), (1, 0xC8), (2, 0x43), (3, 0x5A), (4, 2), (9, 4), (12, 1), (17, 8), (21, 16), (25, 17), (33, 18), (41, 32), (44, 252),
    (45, 32), (48, 1), (53, 24), (0x400, 10)] ++ (rules ++ gates)

theorem witness_start : startFault startImage = none := by decide +kernel
theorem witness_start_state : (starting true startImage).betweenEvents ∧ Memory.wf (starting true startImage).mem = true ∧
    (starting true startImage).control.runState = .starting ∧ (starting true startImage).control.runRequest = true := by decide +kernel
theorem witness_start_channels : ((starting true startImage).door 0).state ≠ .claim ∧ (starting true startImage).queue 0 = [] ∧
    ((starting true startImage).door 0).freePending = false := by decide +kernel
theorem witness_control : base.betweenEvents ∧ State.reset.control.runState = .stopped ∧ flagAt (1 : Word) 0 = true ∧ flagAt (2 : Word) 0 = false ∧
    (starting false []).control.runRequest = false ∧ startFault [] = some (.signature, 0) ∧ base.control.runState = .running := by
  decide +kernel
theorem witness_stopping : base.betweenEvents ∧ base.freeLaw ∧ base.control.runState = .running ∧ flagAt (0 : Word) 0 = false :=
  ⟨rfl, by unfold State.freeLaw; decide +kernel, rfl, by decide⟩
/-- A free window open at gate 0 while gate 1 holds the slot in a punch's hit, and line 0 claims it. -/
theorem witness_stopping_channels : (let s : State := { (atLine (line .claim)).setDoor 0 { door with state := .free, freeEnd := some 5 } with
        arbiter := { holder := some (.door 1), requests := [.line 0] } };
      let s := s.setDoor 1 hitDoor;
      s.freeLaw ∧ s.slotStays ∧ (s.door 0).state = .free ∧ (s.door 0).contact = .closed ∧ s.queue 0 = [] ∧ (s.line 0).state = .claim ∧
      (s.door 1).state = .hit ∧ (s.door 1).cycle = .punch) ∧
    (∀ a, base.offStatus a) :=
  ⟨⟨by unfold State.freeLaw; decide +kernel, ⟨.door 1, rfl, fun g h => by cases h; decide +kernel⟩, by decide +kernel⟩, fun _ _ h => nomatch h⟩
theorem witness_stopping_install : (let s := installing (.verify { base := 0x6000, count := 3 } 1);
      s.betweenEvents ∧ s.control.runState = .running ∧ s.orders.walking = true ∧ Memory.wf s.mem = true ∧
      s.engine.install = .verify { base := 0x6000, count := 3 } 1) ∧
    (installing (.carry (carryAt 0 0 none))).engine.install.inCarry = true ∧
    (installing (.verify { base := 0x6000, count := 3 } 1)).freeLaw ∧
    (installing (.verify { base := 0x6000, count := 3 } 1)).apartFromStatus (0x3000 + 8) 1 :=
  ⟨by decide +kernel, rfl, by unfold State.freeLaw; decide +kernel, fun _ _ b h => nomatch h⟩
theorem witness_memory_fault : base.betweenEvents ∧ base.control.runState ≠ .faulted ∧ (0xFFFFC % 4 = 0 ∧ 0xFFFFC + 4 ≤ 0x100000) ∧
    0x100000 < 0x100000 + 4 := by decide +kernel

/-! #### Doors, supply, bells, journal -/

/-- The worked sequence of 08 at its samples 11 and 17. -/
def sample11 : Door := { hitDoor with
  movement := { Movement.cleared with substate := .seekDip, ms := 11, peak := 380, peakTime := 7, dipRun := 2, runMin := 325, runMinTime := 11 } }
def sample17 : Door := { hitDoor with
  params := some { params 120 with endHitAuto := false },
  movement := { Movement.cleared with substate := .recover, ms := 17, peak := 380, peakTime := 7, valley := 318, valleyTime := 13, moved := true } }

theorem witness_movement : (hitting sample11).betweenEvents ∧ sample11.state = .hit ∧ 331 < 3750 ∧ 11 + 1 < sample11.par.hitMax ∧
    sample11.movement.dipRun + 1 = sample11.par.deglitch ∧ 331 + sample11.par.iDip ≤ sample11.movement.peak ∧
    sample17.movement.peak ≤ 384 ∧ sample17.par.endHitAuto = false ∧ sample17.movement.written = false := by decide +kernel

theorem witness_slot_passes : (∃ u, (behind none (hitting hitDoor)).slotPasses u) ∧
    (∃ u, (behind (some (.door 1)) (hitting hitDoor)).slotPasses u) ∧ ∃ u, (behind (some (.line 2)) (hitting hitDoor)).slotPasses u :=
  ⟨⟨_, .inl ⟨rfl, rfl⟩⟩, ⟨_, .inr ⟨.door 1, [], rfl, rfl, by decide, .inl ⟨1, rfl, by decide +kernel, rfl⟩⟩⟩,
    ⟨_, .inr ⟨.line 2, [], rfl, rfl, by decide, .inr ⟨2, rfl, by decide +kernel, rfl⟩⟩⟩⟩
theorem witness_slot_held : (let s := behind (some (.door 1)) (hitting hitDoor);
      s.betweenEvents ∧ (s.door 0).state = .hit ∧ s.arbiter.holder = some (.door 0) ∧ s.queue 0 = [punch .inward none]) := by
  decide +kernel
theorem witness_movement_ends_the_hit : (let d : Door := { sample17 with params := some (params 120) };
      d.par.endHitAuto = true ∧ d.movement.substate = .recover ∧ d.movement.moved = true ∧ d.movement.written = false ∧
      d.movement.peak ≤ 384 ∧ d.movement.valley ≤ 384 ∧ 17 + 1 < d.par.hitMax ∧ d.contact = .closed ∧
      (hitting d).arbiter = { holder := some (.door 0), requests := [] } ∧ ({ d with cycle := .free } : Door).cycle = .free) := by
  decide +kernel

/-- The last sample before the hit time maximum, with the valley complete and with no movement found. -/
def lastMoved : Door := { sample17 with movement := { sample17.movement with ms := 119, written := true } }
def lastStill : Door := { hitDoor with movement := { Movement.cleared with ms := 119, peak := 200 } }

theorem witness_hit_end : ((hitting lastMoved).betweenEvents ∧ lastMoved.state = .hit ∧ lastMoved.contact = .closed ∧
      lastMoved.movement.ms + 1 = lastMoved.par.hitMax ∧ lastMoved.movement.valley ≤ 390 ∧ lastMoved.par.iChk ≤ lastMoved.movement.peak ∧
      (hitting lastMoved).arbiter = { holder := some (.door 0), requests := [] } ∧ lastStill.movement.ms + 1 = lastStill.par.hitMax ∧
      200 < lastStill.par.iStart ∧ 200 ≤ lastStill.movement.peak ∧ lastStill.freePending = false ∧
      (hitting lastStill).queue 0 = [punch .inward none] ∧ lastStill.served = some (punch .inward none).worker) ∧
    (hitting lastStill).noticeRoom 1 := ⟨by decide +kernel, fun _ => by decide +kernel⟩
theorem witness_hit_end_opened : (let d : Door := { lastMoved with
        contact := .opened, movement := { lastMoved.movement with earlyOpening := true } };
      d.contact = .opened ∧ d.cycle = .punch ∧ d.movement.earlyOpening = true ∧ d.movement.valley ≤ 390 ∧ d.movement.moved = true ∧
      d.movement.substate = .recover ∧ d.movement.ms + 1 = d.par.hitMax ∧ (hitting d).queue 0 = [punch .inward none] ∧
      d.served = some (punch .inward none).worker) ∧
    (let d : Door := { lastStill with contact := .opened, movement := { lastStill.movement with openAtStart := true } };
      d.movement.openAtStart = true ∧ d.movement.substate = .search ∧ d.movement.moved = false ∧ 200 < d.par.iStart ∧
      200 ≤ d.movement.peak ∧ d.movement.ms + 1 = d.par.hitMax) := by decide +kernel
theorem witness_hit_end_free : (let held : State := { base with arbiter := { holder := some (.door 0), requests := [] } };
      let s := atDoor { lastStill with cycle := .free, served := none } [] held;
      (s.door 0).cycle = .free ∧ (s.door 0).movement.substate = .search ∧ 200 < (s.door 0).par.iStart ∧ (s.door 0).freePending = false ∧
      s.queue 0 = [] ∧ (s.door 0).par.policy = .proceed ∧ s.arbiter = { holder := some (.door 0), requests := [] }) := by decide +kernel
theorem witness_door_timers : (let s := atDoor holdDoor [punch .inward none] base;
      s.betweenEvents ∧ (s.door 0).state = .hold ∧ (s.door 0).openTimer = some 900 ∧ 900 + 20 * (s.door 0).par.openTime = s.time.osc ∧
      s.queue 0 = [punch .inward none] ∧ (s.door 0).served = some (punch .inward none).worker ∧ (s.door 0).freePending = false) ∧
    960 + 40 ≤ base.time.osc := by decide +kernel
theorem witness_door_timers_alarm : ({ base with control := { base.control with alarm := true, stretch := some 960 } } : State).alarmLaw := by
  unfold State.alarmLaw
  decide +kernel

/-- A channel one sample short of a steady level. -/
def unsteady (d : Door) (x : Contact) : Door := { d with rawLevel := x, rawRun := 19 }

theorem witness_contact : (let s := atDoor (unsteady holdDoor .opened) [punch .inward none] base;
      s.betweenEvents ∧ (s.door 0).equipped = true ∧ (s.door 0).par.mode = .contact ∧ (s.door 0).rawLevel = .opened ∧ (s.door 0).rawRun = 19 ∧
      (s.door 0).settling = false ∧ (s.door 0).contact = .closed ∧ (s.door 0).state = .hold ∧ s.queue 0 = [punch .inward none] ∧
      (s.door 0).served = some (punch .inward none).worker) ∧
    (unsteady { door with state := .closing, contact := .opened } .closed).contact = .opened ∧
    (unsteady { door with state := .free, contact := .opened } .closed).state = .free ∧
    (unsteady { door with settling := true } .opened).state = .idle ∧ (unsteady { door with state := .free } .opened).contact = .closed := by
  decide +kernel
theorem witness_forced : (let s := base.setDoor 0 (unsteady { door with state := .outOfService } .opened);
      s.betweenEvents ∧ (s.door 0).equipped = true ∧ (s.door 0).par.mode = .contact ∧ (s.door 0).rawRun = 19 ∧ (s.door 0).contact = .closed ∧
      (s.door 0).state = .outOfService ∧ (unsteady door .opened).state = .idle ∧ 400 + 20 * door.par.heldLimit ≤ s.time.osc ∧
      ({ door with state := .closing, contact := .opened, heldTimer := some 400 } : Door).heldRaised = false ∧
      ({ door with state := .closing, heldRaised := true } : Door).heldRaised = true) ∧
    base.noticeRoom 1 := ⟨by decide +kernel, fun _ => by decide +kernel⟩
theorem witness_coil_faults : (let s := atDoor { holdDoor with overRun := 2 } [punch .inward none] base;
      s.betweenEvents ∧ (s.door 0).equipped = true ∧ (s.door 0).state = .hold ∧ 3750 ≤ 3750 ∧ (s.door 0).overRun = 2 ∧
      s.arbiter.holder ≠ some (.door 0) ∧ (base.door 0).state = .idle ∧ (base.door 0).openLoadHold = false) ∧ base.noticeRoom 1 :=
  ⟨by decide +kernel, fun _ => by decide +kernel⟩
theorem witness_resistance : (let d : Door := { holdDoor with winCount := 99, winMillivolts := 99 * 24000, winCurrent := 99 * 250 }
      base.betweenEvents ∧ d.state = .hold ∧ d.winCount = 99 ∧ 25 * (d.winMillivolts + 24000) / (d.winCurrent + 250) ≤ d.par.rHot ∧
      d.par.rHot < 25 * (d.winMillivolts + 24000 * 99) / (d.winCurrent + 250) ∧ d.flags.coilHot = false ∧
      (let f : Door := { d with state := .free, served := none };
        f.state = .free ∧ f.contact = .closed ∧ ({ f with contact := .opened } : Door).contact = .opened ∧ f.freePending = false ∧
        (atDoor f [] base).queue 0 = [])) ∧ base.noticeRoom 1 :=
  ⟨by decide +kernel, fun _ => by decide +kernel⟩
theorem witness_supply : (let s : State := { base with supply := { state := .normal, lowRun := 2, recoveryRun := 0 } };
      s.betweenEvents ∧ 189 < 190 ∧ s.supply.lowRun = 2 ∧ s.control.runState ≠ .stopping ∧ (base.supply.lowRun < 2 ∧ 190 ≤ 190) ∧
      (∀ g, s.queue g = [] ∧ (s.door g).freePending = false ∧ (s.door g).alarming = false) ∧ (205 < 206 ∧ 205 ≤ 205)) ∧
    base.noneWaitsForRoom := ⟨by decide +kernel, waits_of _ rfl rfl⟩
theorem witness_bells : ((atLine (line .delay)).betweenEvents ∧ (line .delay).queue.length = 1 ∧ (atLine (line .delay)).time.atHalfSecond = true ∧
      (line .delay).headDue (atLine (line .delay)).time.absTick = true ∧ (line .gap).phaseEnds ≤ base.time.osc ∧
      (atLine (line .delay)).arbiter = { holder := none, requests := [] } ∧ base.control.runState = .running ∧
      1 < 2 ∧ Claimant.door 0 ≠ .line 0) ∧ base.noticeRoom 1 := ⟨by decide +kernel, fun _ => by decide +kernel⟩
theorem witness_bells_slot_passes : (let s : State := { (atLine { line .on with releaseAt := some 1000 }).setDoor 1 { door with state := .claim } with
        arbiter := { holder := some (.line 0), requests := [.door 1, .line 2] } };
      (s.line 0).releaseAt = some 1000 ∧ 1000 ≤ s.time.osc ∧ s.supply.state = .normal ∧ (s.door 1).state = .claim ∧
      ((s.setLine 2 (line .claim)).line 2).state = .claim ∧ (2 : LineNo) ≠ 0) := by decide +kernel
theorem witness_bells_in_stopping : (let s := stopping true (atLine (line .settle));
      s.control.runState = .stopping ∧ (∀ g, s.queue g = []) ∧ (∀ n, n ≠ 0 → (s.line n).state = .idle) ∧
      s.orders.walking = false) := by decide +kernel
/-- The headers that the walk of the worked sequence meets in turn, and those it meets where the second record is spoiled. -/
theorem witness_journal_walk : (rush.walkPasses region [.record 4, .record 8, .record 4, .filler] ∧ rush.takenCount = 3) ∧
    rush.walkEnds region [.record 4, .record 8, .record 4, .filler] ∧
    (let spoiled := rush.withMem (put rush.mem (0x2000 + 4 * 48) [0]);
      spoiled.walkPasses region [.record 4] ∧ spoiled.headerOf region (rush.journal.pass region (.record 4)) = .fails ∧
      0 < (rush.journal.pass region (.record 4)).used) ∧ rush.noneWaitsForRoom :=
  ⟨by unfold State.walkPasses; decide +kernel, .inr ⟨by decide +kernel, 8, by decide +kernel⟩,
    by unfold State.walkPasses; decide +kernel, waits_of _ rfl rfl⟩
/-- The same journal with 20 words reserved: 12 are free, and 36 after the walk. -/
theorem witness_room : (let s := rush.withJournal { rush.journal with reserved := 20 };
      s.journal.region = some region ∧ s.journal.freeWords = 12 ∧ s.journal.damaged = false ∧ rush.journal.damaged = false ∧
      ((s.withMem (put s.mem 60 [506])).load takenCell).toNat ≠ 0 ∧
      s.journal.unreleased ≤ seqDistance 501 ((s.withMem (put s.mem 60 [506])).load takenCell).toNat) ∧
    ((rush.withJournal { rush.journal with reserved := 29 }).requestRoom 4).1 = true ∧
    ((rush.withJournal { rush.journal with reserved := 53 }).requestRoom 4).1 = false ∧ State.reset.journal.region = none := by
  decide +kernel
theorem witness_journal : (rush.betweenEvents ∧ rush.journal.region = some region ∧ (rush.load takenCell).toNat = 503 ∧
      rush.journal.checkHeader region (rush.load rush.journal.readPos) = .record 4 ∧ (base.load takenCell).toNat = 0 ∧
      ((rush.withMem (put rush.mem 60 [501])).load takenCell).toNat = rush.journal.oldestSeq ∧ 4 < rush.journal.used ∧
      rush.journal.checkHeader region (rush.load (0x2000 + 4 * 48)) = .fails ∧
      ({ rush.journal with readPos := 0x2000 + 4 * 48, oldestSeq := 502 } : Journal).checkHeader region (rush.load (0x2000 + 4 * 48)) =
        .record 8 ∧ 506 ≠ seqPred 501 ∧ rush.journal.unreleased ≤ seqDistance 501 506 ∧ 980 + 20 ≤ base.time.osc) ∧
    rush.noneWaitsForRoom := ⟨by decide +kernel, waits_of _ rfl rfl⟩

/-! #### Witnesses of the clauses beyond the plain cases -/

/-- The record of the worker at index 0 changed. -/
def edit (f : Worker → Worker) (s : State) : State := s.setWorker (ref 0) (f (s.worker (ref 0)))

/-- Room given back by the event, still to be offered. -/
def offered (s : State) : State := s.withJournal { s.journal with roomGiven := true }

/-- A sweep paused at the worker at index 0, whose open-in has no stamp and no shift start. -/
def pausedSweep (used : Nat) (damaged : Bool) : State :=
  let s := inside 0 { openIn with stamp := none, start := none, length := 0, offShift := true } base
  offered ((s.withEngine { s.engine with sweep := .paused }).withJournal { journal with used := used, damaged := damaged })

/-- A carry paused at its old-only badge 20, with the given flags of its worker and the given fill of a damaged journal. -/
def pausedCarry (used : Nat) : State :=
  offered ((installing (.carry { carryAt 1 1 (some 10) with paused := true })).withJournal
    { journal with used := used, damaged := true })

theorem witness_room_offered : (offered base).journal.roomGiven = true ∧ (offered base).noneWaitsForRoom ∧
    (let s := pausedSweep 52 false;
      s.engine.sweep = .paused ∧ s.engine.workers = some { base := 0x400, count := 3 } ∧ s.engine.install.inCarry = false ∧
      s.engine.sweepCursor + 1 < 3 ∧ (s.worker (ref 0)).inFlight = none ∧ 12 ≤ s.journal.freeWords ∧ Memory.wf s.mem = true ∧
      (s.worker (ref 0)).openIn.map (fun o => (o.start, o.stamp)) = some (none, none) ∧
      (pausedSweep 53 true).journal.freeWords < 12) ∧
    (let s := pausedCarry 53;
      s.engine.install = .carry { carryAt 1 1 (some 10) with paused := true } ∧
      s.carryNext { base := 0x400, count := 3 } { carryAt 1 1 (some 10) with paused := true } = .oldOnly 20 ∧
      (s.worker (ref 1)).departure = [] ∧ s.carryNext { base := 0x400, count := 3 } (carryAt 2 1 (some 20)) ≠ .finished ∧
      ((s.withMem (put s.mem 0x450 [0])).worker (ref 1)).inFlight ≠ none ∧
      ((s.setWorker (ref 1) { s.worker (ref 1) with pairs := 1 }).worker (ref 1)).departure.length = 1 ∧
      s.journal.freeWords < 12 * 1) := ⟨rfl, waits_of _ rfl rfl, by decide +kernel, by decide +kernel⟩
theorem witness_room_offered_places : (pausedSweep 52 false).journal.placed region ∧ (pausedSweep 52 false).recordApart (ref 0) :=
  ⟨placed, apart_of _ rfl rfl rfl⟩

/-- The tick before 06:01 of day 1212, the boundary of 06:01 not yet raised and that of 06:00 raised. -/
def rolling (bells : Bells) : State :=
  { base with time := { base.time with tick := 19, second := 59, minute := 360, lm := some (1212 * 1440 + 360) }, bells := bells }

/-- The bell table of an entry without a line, its free window of 1 minute at gate 0 delayed by 1 second. -/
def windowTable : Memory := put image 0x1100 [361 + 127 * 65536, 2 + 10 * 256 + 5 * 65536 + 16777216, 1 + 256]

theorem witness_boundary : (rolling Bells.reset).betweenEvents ∧ lmBehind (rolling Bells.reset).time.lm (1212 * 1440 + 361) = true ∧
    (∀ g, ((rolling Bells.reset).door g).freeEnd = none) ∧
    ¬ ((rolling Bells.reset).time.clock = .locked ∨ (rolling Bells.reset).time.clock = .resync) ∧
    minuteBehind (1212 * 1440 + 361) (1212 * 1440 + 362) = true ∧ minuteBehind (1212 * 1440 + 361) (1212 * 1440 + 361) = false ∧
    (let e := BellEntry.read image 0x1100 0;
      e.minute = 361 ∧ e.valid = true ∧ maskBit e.dayMask 2 = true ∧ e.lineMask = 2 ^ 0 ∧ e.freeWindow = 0) ∧
    (let e := BellEntry.read windowTable 0x1100 0;
      e.minute = 361 ∧ e.valid = true ∧ e.lineMask = 0 ∧ e.freeMask = 2 ^ 0 ∧ 0 < e.freeWindow ∧ 0 < e.startDelay) ∧
    base.supply.state = .normal ∧ base.freeSend 0 = none ∧ 359 ≠ 361 ∧
    maskBit (BellEntry.read (put image 0x1100 [361 + 123 * 65536]) 0x1100 0).dayMask 2 = false := by decide +kernel
theorem witness_boundary_notices : (let m := put image 0x1100 [361 + 127 * 65536 + 16777216, 2];
      (BellEntry.read m 0x1100 0).minute = 361 ∧ (BellEntry.read m 0x1100 0).valid = false) ∧
    ({ rolling Bells.reset with supply := { state := .low, lowRun := 0, recoveryRun := 0 } } : State).supply.state = .low ∧
    (let p : Pattern := { entry := some 0, pulses := 2, onTime := 10, gap := 5, due := none };
      4 ≤ ((base.setLine 0 { line .on with queue := [p, p, p, p] }).line 0).queue.length) ∧
    (rolling Bells.reset).journal.freeWords = 64 := by decide +kernel
theorem witness_boundary_window : minuteReached (1212 * 1440 + 362) (1212 * 1440 + 361) = false ∧
    minuteReached (1212 * 1440 + 361) (1212 * 1440 + 361) = true ∧
    (let s := (rolling Bells.reset).setDoor 0 { door with state := .free, freeEnd := some (1212 * 1440 + 361) };
      (∀ h, h ≠ 0 → (s.door h).freeEnd = none) ∧ s.queue 0 = [] ∧ (s.door 0).contact = .closed ∧ (s.door 0).freePending = false) := by
  decide +kernel
/-- The entries of the current table are of other minutes. -/
theorem other_minutes {s : State} {m : Nat} (t : Table) (ht : s.bells.current = some t)
    (h : ∀ i, i < t.count → (BellEntry.read s.mem t.base i).minute ≠ m) :
    ∀ table i, s.bells.current = some table → i < table.count → (BellEntry.read s.mem table.base i).minute ≠ m :=
  fun table i hc hi => by
    have : table = t := Option.some.inj (hc.symm.trans ht)
    subst this
    exact h i hi

/-- RUNNING with an empty current table, with one whose entry is of 06:02, and silenced until 06:02. -/
def emptyTable : State := rolling { Bells.reset with current := some { base := 0x1100, count := 0 } }
def otherTable : State :=
  { rolling { Bells.reset with current := some { base := 0x1100, count := 1 } } with mem := put image 0x1100 [362 + 127 * 65536] }
def silencedTable : State :=
  rolling { Bells.reset with current := some { base := 0x1100, count := 1 }, silenceEnd := some (1212 * 1440 + 362) }

theorem witness_boundary_quiet : (emptyTable.bells.pendingTable = none ∧ emptyTable.bells.silenceEnd = none ∧
      ∀ table i, emptyTable.bells.current = some table → i < table.count →
        (BellEntry.read emptyTable.mem table.base i).minute ≠ 361) ∧
    (otherTable.bells.silenceEnd = none ∧ ∀ table i, otherTable.bells.current = some table → i < table.count →
      (BellEntry.read otherTable.mem table.base i).minute ≠ 361) ∧
    (∃ e, silencedTable.bells.silenceEnd = some e ∧ minuteBehind (1212 * 1440 + 361) e = true) ∧
    (∀ g, (silencedTable.door g).freeEnd = none) ∧ silencedTable.noticeRoom 1 :=
  ⟨⟨rfl, rfl, other_minutes { base := 0x1100, count := 0 } rfl fun _ h => absurd h (Nat.not_lt_zero _)⟩,
    ⟨rfl, other_minutes { base := 0x1100, count := 1 } rfl (by decide +kernel)⟩, ⟨_, rfl, by decide +kernel⟩, by decide +kernel,
    fun _ => by decide +kernel⟩

/-- Gate 0 in a free cycle at its end minute, the bells silent. -/
def ending (d : Door) (a : Arbiter) : State :=
  { emptyTable.setDoor 0 { d with cycle := .free, served := none, freeEnd := some (1212 * 1440 + 361) } with arbiter := a }

theorem witness_boundary_ends : (let s := ending { door with state := .claim } { holder := some (.line 3), requests := [.door 0] };
      (s.door 0).freeEnd = some (1212 * 1440 + 361) ∧ (s.door 0).freePending = false ∧ (s.door 0).state = .claim ∧
      (s.door 0).cycle = .free ∧ Claimant.door 0 ∈ s.arbiter.requests ∧ s.queue 0 = [] ∧ (∀ h, h ≠ 0 → (s.door h).freeEnd = none)) ∧
    (let s := ending { door with state := .free, contact := .opened } { holder := none, requests := [] };
      (s.door 0).state = .free ∧ (s.door 0).contact = .opened ∧ (s.door 0).freePending = false) ∧
    (let s := (ending hitDoor { holder := some (.door 0), requests := [.door 1] }).setDoor 1 { door with state := .claim };
      (s.door 0).state = .hit ∧ (s.door 0).cycle = .free ∧ s.arbiter.holder = some (.door 0) ∧ s.queue 0 = [] ∧
      ∃ u, s.slotPasses u) ∧
    ∃ u, (ending hitDoor { holder := some (.door 0), requests := [] }).slotPasses u :=
  ⟨by decide +kernel, by decide +kernel, ⟨by decide +kernel, by decide +kernel, rfl, rfl,
    _, .inr ⟨.door 1, [], rfl, rfl, by decide +kernel, .inl ⟨1, rfl, by decide +kernel, rfl⟩⟩⟩, _, .inl ⟨rfl, rfl⟩⟩

/-- In FREE at 05:55:20.25 the mark of 05:56 is the local minute's next; it steps the clock by 39 s and raises the boundary of 05:56, whose
minute the bell table does not hold. A silence end of 05:57 silences it. -/
theorem witness_mark_notice : (base.betweenEvents ∧ base.time.clock = .free ∧ base.control.runState = .running ∧
      ({ minute := 356, dow := 2 } : ClockMark) = ClockMark.next { minute := 355, dow := 2 } ∧
      (1 + 100 + 2 + 153 : Byte) = 0 ∧ 356 = (1 : Byte).toNat * 256 + (100 : Byte).toNat ∧
      base.time.impliedMinute { minute := 356, dow := 2 } = 1212 * 1440 + 356 ∧ base.time.lm = none ∧
      base.time.ticksPast (1212 * 1440 + 356) = -795 ∧ base.bells.pendingTable = none ∧ base.bells.silenceEnd = none ∧
      (∀ g, (base.door g).freeEnd = none) ∧ minuteBehind (1212 * 1440 + 356) (1212 * 1440 + 357) = true) ∧
    (∀ table i, base.bells.current = some table → i < table.count → (BellEntry.read base.mem table.base i).minute ≠ 356) ∧
    base.noticeRoom 1 :=
  ⟨by decide +kernel, other_minutes { base := 0x1100, count := 1 } rfl (by decide +kernel), fun _ => by decide +kernel⟩

/-- The boundary of 06:01 raised with its entry selected, which leaves the room of a notice. -/
theorem witness_mark_raised : (let s := rolling { Bells.reset with current := some { base := 0x1100, count := 1 } };
      let raised := s.raiseBoundary (1212 * 1440 + 361);
      raised.betweenEvents ∧ (raised.line 0).queue.length = 1 ∧ 4 ≤ raised.journal.freeWords) := by decide +kernel
theorem witness_mark_free_and_resync : rolled.noneWaitsForRoom ∧
    (let here : ClockMark := { minute := 359, dow := 2 };
      let s (c : ClockState) := rolled.withTime { rolled.time with clock := c, candidate := some { minute := 390, dow := 2 } };
      (s .free).time.clock = .free ∧ rolled.time.minute = here.minute ∧ rolled.time.dow = here.dow ∧
      ({ minute := 361, dow := 2 } : ClockMark) ≠ here ∧ ({ minute := 361, dow := 2 } : ClockMark) ≠ here.next ∧
      (s .resync).time.candidate = some { minute := 390, dow := 2 } ∧
      ({ minute := 391, dow := 2 } : ClockMark) = ClockMark.next { minute := 390, dow := 2 } ∧
      (s .resync).time.impliedMinute { minute := 391, dow := 2 } = 1200 * 1440 + 391) := ⟨waits_of _ rfl rfl, by decide +kernel⟩

/-! ##### Presentations -/

/-- The worker at index 0 changed in the state with just the room of a presentation. -/
def judged (f : Worker → Worker) : State := presented .entry 10 (edit f tight)

theorem witness_turned_away_by_door : ((tight.setDoor 0 { door with state := .outOfService }).door 0).state = .outOfService ∧
    ((tight.setDoor 0 { door with equipped := false }).door 0).equipped = false ∧
    (let s : State := { tight with supply := { tight.supply with state := .low } };
      s.lookup 10 = some (ref 0) ∧ s.supply.state = .low ∧ (s.worker (ref 0)).mask / 2 ^ 0 % 2 = 1) := by decide +kernel
/-- The worker at index 0 accepted at position 0 at 05:54:59. -/
def acceptedBefore (w : Worker) : Worker := { w with lastReader := some 0, lastStamp := some { day := 1212, second := 21299 } }

theorem witness_turned_away_as_repeat : (let s := edit acceptedBefore (tight.withMem (put tight.mem 0x1000 [256 + 16777216]));
      let w := s.worker (ref 0);
      (s.gateEntry 0).repeatWindow = 1 ∧ w.lastReader = some 0 ∧ w.lastStamp = some { day := 1212, second := 21299 } ∧
      ((⟨1212, 21299⟩ : Stamp).abs + 1 + 5662224000 - (⟨1212, 21300⟩ : Stamp).abs) % 5662224000 ≤ 1 ∧ w.suspended = false ∧
      (s.gateEntry 0).oneReader = false ∧ s.lookup 10 = some (ref 0)) := by decide +kernel
theorem witness_turned_away_by_presence : (let w := (judged fun w => { w with presence := .inside }).worker (ref 0);
      w.presence = .inside ∧ w.exempt = false ∧ w.inFlight = none ∧ w.lastReader = none) ∧
    ((judged fun w => { w with inFlight := some 0 }).worker (ref 0)).inFlight ≠ none ∧
    (let s := judged (fun w => { w with windowEnforced := true, group := 2 });
      let w := s.worker (ref 0);
      w.windowEnforced = true ∧ w.presence = .outside ∧ s.finding w.group (some { day := 1212, second := 21300 }) = none) ∧
    4 ≤ ((tight.setQueue 0 (List.replicate 4 (punch .inward none))).queue 0).length := by decide +kernel

/-- The gate table with gate 0 of a single reader, at position 0. -/
def oneReaderImage : Memory := put image 0x1000 [64 * 256 + 65536]

theorem witness_one_reader : ((tight.withMem oneReaderImage).gateEntry 0).oneReader = true ∧
    ((tight.withMem oneReaderImage).worker (ref 0)).presence = .outside ∧ (tight.withMem oneReaderImage).lookup 10 = some (ref 0) := by
  decide +kernel
/-- A presentation at the door of gate 0 in FREE, by role, of the worker at index 0. -/
def atFree (role : Role) (f : Worker → Worker) : State := presented role 10 ((edit f tight).setDoor 0 { door with state := .free })

theorem witness_accepted_free : ((atFree .entry id).door 0).state = .free ∧ ((atFree .entry id).worker (ref 0)).openIn = none ∧
    (atFree .entry id).noneWaitsForRoom ∧ (atFree .entry id).journal.placed region ∧ (atFree .entry id).shiftApart (ref 0) :=
  ⟨by decide +kernel, by decide +kernel, waits_of _ rfl rfl, placed, fun a h => by
    have : a = 0x800 := Option.some.inj (h.symm.trans rfl)
    subst this
    decide⟩
/-- An IN over an OPEN open-in of a worker UNKNOWN, and an OUT with the open-in NONE, and OPEN. -/
theorem witness_accepted_free_others : (let s := atFree .entry fun w => { w with presence := .unknown, openIn := some openIn };
      let w := s.worker (ref 0);
      w.openIn = some openIn ∧ w.presence = .unknown ∧ w.pendingCount ≤ 32 ∧ Memory.wf s.mem = true ∧ s.lookup 10 = some (ref 0) ∧
      w.windowEnforced = false ∧ w.inFlight = none ∧ s.engine.handed[0]? = some (shown .entry 10)) ∧
    (let s := atFree .exit id;
      let w := s.worker (ref 0);
      (shown .exit 10).role ≠ .entry ∧ (s.gateEntry 0).oneReader = false ∧ w.openIn = none ∧ w.presence = .outside ∧
      w.pendingCount ≤ 32 ∧ s.engine.handed[0]? = some (shown .exit 10)) ∧
    (let s := atFree .exit fun w => { w with presence := .inside, openIn := some openIn };
      let w := s.worker (ref 0);
      w.openIn = some openIn ∧ s.payRule 4 ≠ none ∧ w.noPay = false ∧ w.rdDay = none ∧
      (shown .exit 10).stamp = some { day := 1212, second := 21300 }) := by decide +kernel
theorem witness_accepted_free_slots : (atFree .exit id).slotsApart region ((atFree .exit id).worker (ref 0)) ∧
    (atFree .exit id).recordApart (ref 0) ∧ ((atFree .exit id).worker (ref 0)).inRange :=
  ⟨⟨by decide +kernel, fun t h => by
    have : t = { base := 0x1180, count := 2 } := Option.some.inj (h.symm.trans rfl)
    subst this
    decide⟩, apart_of _ rfl rfl rfl, by
    rw [show (atFree .exit id).worker (ref 0) = base.worker (ref 0) by decide +kernel]
    exact worker_zero_in_range⟩
/-- An IDLE door whose slot is another's. -/
theorem witness_accepted_waits : (let s : State := { presented .entry 10 tight with arbiter := { holder := some (.line 3), requests := [] } };
      (s.door 0).state = .idle ∧ s.queue 0 = [] ∧ s.arbiter.holder = some (.line 3) ∧ Claimant.line 3 ≠ .door 0 ∧
      Claimant.door 0 ∉ s.arbiter.requests) := by decide +kernel

/-! ##### The outcomes of COMMIT_OUT -/

/-- Pay rule 4 with every exception class enabled and quiet. -/
def enabling (m : Memory) : Memory := put m 0xF40 [0x65F + 63 * 131072]

/-- The reported OUT of the worker at index 0, who has no open-in. -/
def missingIn : State := reported .outward .passed

theorem witness_commit_out_missing_in : (missingIn.worker (ref 0)).openIn = none ∧ (missingIn.worker (ref 0)).pendingCount ≤ 32 ∧
    missingIn.payRule 4 = some (PayRule.read image 0x800 4) ∧ (PayRule.read image 0x800 4).enables .missingIn = false ∧
    (let s := missingIn.withMem (enabling missingIn.mem);
      (PayRule.read s.mem 0x800 4).valid = true ∧ (PayRule.read s.mem 0x800 4).enables .missingIn = true ∧
      lowestFree s.mem { base := 0x1180, count := 2 } = some 0 ∧
      lowestFree (put (put s.mem 0x1180 [1]) 0x11B0 [1]) { base := 0x1180, count := 2 } = none) ∧
    0x1180 + 48 * 2 ≤ region.first := by decide +kernel
theorem witness_commit_out_unpaid : (caseA.withMem (put caseA.mem 0xF40 [0])).payRule 4 = none ∧
    (PayRule.read (enabling caseA.mem) 0x800 4).enables .unsetTime = true ∧ caseA.payRule 4 ≠ none ∧
    ((edit (fun w => { w with openIn := some { openIn with stamp := none } }) caseA).worker (ref 0)).openIn =
      some { openIn with stamp := none } := by decide +kernel

/-- The pair of worked case A over the memory given, with another out stamp. -/
def pairAt (m : Memory) (out : Stamp) (w : Worker) : StageResult :=
  pairStages (PayRule.read m 0x800 4) (caseA.closeLimits 1 openIn.start) w openIn { day := 1212, second := 21160 } out

theorem witness_commit_out_span : (pairAt (enabling caseA.mem) { day := 1213, second := 54440 } (caseA.worker (ref 0))).overLimit = true ∧
    (PayRule.read (enabling caseA.mem) 0x800 4).enables .spanLimit = true ∧
    (caseA.worker (ref 0)).rdDay = some 1211 := by decide +kernel
theorem witness_commit_out_overflow : (let w := (edit (fun w => { w with amount := 4294967295 }) caseA).worker (ref 0);
      let x := pairAt (enabling caseA.mem) { day := 1212, second := 54440 } w;
      x.overLimit = false ∧ 4294967295 < w.amount + x.amount ∧ w.amount = 4294967295) ∧
    (PayRule.read (enabling caseA.mem) 0x800 4).enables .totalOverflow = true := by decide +kernel

/-! ##### The sweep, the carry, host edits -/

/-- A sweep at its worker 0, whose open-in of the shift of day 1211 is due: the shift ended at 14:00 and the delay is 120 minutes. -/
def sweepingDue : State :=
  let s := inside 0 { openIn with stamp := some { day := 1211, second := 21160 }, start := some (1205, 360) } base
  s.withEngine { s.engine with sweep := .running }

theorem witness_sweep_due : ((sweepingDue.worker (ref 0)).openIn.map OpenIn.start) = some (some (1205, 360)) ∧
    (sweepingDue.dayEntry 1 1205).map (fun e => (e.valid, e.autoClose)) = some (true, 120) ∧
    sweepingDue.time.clock ≠ .unset ∧ 0 < 120 ∧ (∀ x ∈ sweepingDue.time.stamp, x.second < 86400) ∧
    ((sweepingDue.time.absSecond : Int) - ((1205 * 1440 + 360 + 480) * 60 + 60 * 120)) % 5662224000 ≤ 2831111999 ∧
    ¬ ((sweepingDue.time.absSecond : Int) - ((1212 * 1440 + 360 + 480) * 60 + 60 * 120)) % 5662224000 ≤ 2831111999 ∧
    (sweepingDue.worker (ref 0)).noPay = false ∧ (sweepingDue.worker (ref 0)).rd = 0 ∧ sweepingDue.payRule 4 ≠ none ∧
    (let lim := sweepingDue.closeLimits 1 (some (1205, 360));
      let x := pairStages (PayRule.read image 0x800 4) lim (sweepingDue.worker (ref 0)) { openIn with start := some (1205, 360) }
        { day := 1205, second := 21160 } { day := 1205, second := 50400 };
      x.overLimit = false ∧ (sweepingDue.worker (ref 0)).fits x = true) := by decide +kernel
theorem witness_sweep_unpaid : (sweepingDue.withMem (put sweepingDue.mem 0xF40 [0])).payRule 4 = none ∧
    ((edit (fun w => { w with noPay := true }) sweepingDue).worker (ref 0)).noPay = true ∧
    ((inside 0 { openIn with stamp := none, start := some (1205, 360) } sweepingDue).worker (ref 0)).openIn =
      some { openIn with stamp := none, start := some (1205, 360) } ∧ ¬ (none : Option Stamp) ≠ none := by decide +kernel

/-- A pair with the shift end of day 1205 as its out stamp, over the memory given. -/
def sweptPair (m : Memory) (tin : Stamp) (w : Worker) : StageResult :=
  pairStages (PayRule.read m 0x800 4) (sweepingDue.closeLimits 1 (some (1205, 360))) w { openIn with start := some (1205, 360) } tin
    { day := 1205, second := 50400 }

theorem witness_sweep_exceptions : (let m := enabling sweepingDue.mem;
      let w := (edit (fun w => { w with amount := 4294967295, early := true }) sweepingDue).worker (ref 0)
      (PayRule.read m 0x800 4).valid = true ∧ (∀ c ∈ [ExcClass.unsetTime, .spanLimit, .totalOverflow], (PayRule.read m 0x800 4).enables c = true) ∧
      (sweptPair m { day := 1203, second := 21160 } w).overLimit = true ∧ (sweptPair m { day := 1205, second := 21160 } w).overLimit = false ∧
      4294967295 < w.amount + (sweptPair m { day := 1205, second := 21160 } w).amount ∧
      lowestFree m { base := 0x1180, count := 2 } = some 0) ∧ sweepingDue.slotsApart region (sweepingDue.worker (ref 0)) :=
  ⟨by decide +kernel, by decide +kernel, fun t h => by
    have : t = { base := 0x1180, count := 2 } := Option.some.inj (h.symm.trans rfl)
    subst this
    decide⟩

/-- The carry at its old-only badge 20, whose worker leaves an open-in and a pair. -/
def departing : State := (installing (.carry (carryAt 1 1 (some 10)))).setWorker (ref 1)
  { twoTables.worker (ref 1) with openIn := some openIn, pairs := 1 }

theorem witness_carry_departs : (let s := departing;
      (s.worker (ref 1)).departure.length = 2 ∧ s.carryNext { base := 0x400, count := 3 } (carryAt 1 1 (some 10)) = .oldOnly 20 ∧
      s.engine.sweep ≠ .paused ∧ 12 * 2 ≤ (s.withJournal { journal with used := 40 }).journal.freeWords ∧
      (s.withJournal { journal with used := 41, damaged := true }).journal.freeWords < 12 * 2 ∧ Memory.wf s.mem = true) ∧
    (installing (.carry (carryAt 1 1 (some 10)))).journal.placed region := ⟨by decide +kernel, placed⟩
theorem witness_lookup_in_carry : twoTables.engine.workers = some { base := 0x400, count := 3 } ∧
    ({ base := 0x400, count := 3 } : Table).find twoTables.mem 20 = some (ref 1) ∧
    ({ base := 0x400, count := 3 } : Table).find twoTables.mem 25 = none ∧ 10 ≤ 10 ∧ ¬ 20 ≤ 10 := by decide +kernel

/-- SET PRESENCE with the close asked in hand, at 12:00 of the day of an open-in of the worker at index 0. -/
def closing : State :=
  let s := { caseA with
    time := { caseA.time with minute := 720 }, engine := { caseA.engine with workers := some { base := 0x400, count := 1 } } }
  holding .setPresence [10, 0, 1] ((edit (fun w => { w with inFlight := none }) s).withJournal journal)

theorem witness_set_presence_closes : closing.betweenEvents ∧ closing.control.runState = .running ∧ closing.lookup 10 = some (ref 0) ∧
    (closing.worker (ref 0)).openIn = some openIn ∧ (closing.worker (ref 0)).inFlight = none ∧ Memory.wf closing.mem = true ∧
    closing.time.stamp = some { day := 1212, second := 43220 } ∧ closing.orders.inHand.map (fun h => h.params.length) = some 3 ∧
    (let x := pairStages (PayRule.read image 0x800 4) (closing.closeLimits 1 openIn.start) (closing.worker (ref 0)) openIn
        { day := 1212, second := 21160 } { day := 1212, second := 43220 };
      x.overLimit = false ∧ (closing.worker (ref 0)).fits x = true) ∧
    (closing.withJournal { journal with used := 53, damaged := true }).journal.freeWords < 12 ∧ closing.orders.current = 0x3000 ∧
    region.last + 4 ≤ 0x3000 ∧ 12 ≤ closing.journal.freeWords := by decide +kernel
theorem witness_set_presence_apart : closing.noneWaitsForRoom ∧ closing.journal.placed region ∧ closing.recordApart (ref 0) ∧
    apart 0x3000 (0x3000 + 36) 0x2000 (0x20FC + 4) ∧ apart 0x3000 (0x3000 + 36) (ref 0).address ((ref 0).address + 64) :=
  ⟨waits_of _ rfl rfl, placed, apart_of _ rfl rfl rfl, .inr (by decide), .inr (by decide)⟩

theorem witness_set_presence_exceptions : (closing.withMem (put closing.mem 0xF40 [0])).payRule 4 = none ∧
    ((edit (fun w => { w with noPay := true }) closing).worker (ref 0)).noPay = true ∧
    ({ closing with time := { closing.time with clock := .unset } } : State).time.stamp = none ∧
    (let m := enabling closing.mem;
      (PayRule.read m 0x800 4).valid = true ∧ (PayRule.read m 0x800 4).enables .spanLimit = true ∧
      lowestFree m { base := 0x1180, count := 2 } = some 0 ∧
      (pairAt m { day := 1213, second := 54440 } (closing.worker (ref 0))).overLimit = true) ∧
    apart 0x3000 (0x3000 + 36) 0x1180 (0x1180 + 48 * 2) :=
  ⟨by decide +kernel, by decide +kernel, rfl, by decide +kernel, .inr (by decide)⟩

/-- An IN reported for the worker at index 0, whose open-in still stands. -/
def openStill : State := inside 0 openIn (reported .inward .passed)

theorem witness_commit_in_over_open_in : (openStill.betweenEvents ∧ Memory.wf openStill.mem = true ∧
      openStill.queue 0 = [punch .inward (some .passed)] ∧ (openStill.worker (ref 0)).openIn = some openIn ∧
      (openStill.worker (ref 0)).pendingCount ≤ 32 ∧ (openStill.payRule 4).map (fun x => x.enables .missingOut) = some false ∧
      (PayRule.read (enabling openStill.mem) 0x800 4).enables .missingOut = true ∧
      lowestFree openStill.mem { base := 0x1180, count := 2 } = some 0 ∧ 0x1180 + 48 * 2 ≤ region.first) ∧
    openStill.noneWaitsForRoom ∧ openStill.journal.placed region ∧ openStill.recordApart (ref 0) :=
  ⟨by decide +kernel, waits_of _ rfl rfl, placed, apart_of _ rfl rfl rfl⟩

/-! ##### Gates, free requests, coils, the supply -/

theorem witness_set_gate_map : (∀ g : Gate, (GateEntry.read image 0x1000 g.val).entry.outOfRange = false ∧
      (GateEntry.read image 0x1000 g.val).exit.outOfRange = false) ∧
    (GateEntry.read image 0x1000 0).entry.position = some 0 ∧ (GateEntry.read image 0x1000 0).exit.position = some 1 ∧
    (∀ g : Gate, g ≠ 0 → (GateEntry.read image 0x1000 g.val).entry.position = none ∧
      (GateEntry.read image 0x1000 g.val).exit.position = none) ∧ (base.reader 0).placed = some (0, .entry) ∧
    (base.reader 2).placed = none := by decide +kernel
theorem witness_set_gate_apart : apart 0x1000 (0x1000 + 192) 0x3000 (0x3000 + 44) ∧ base.apartFromStatus 0x1000 48 :=
  ⟨.inl (by decide), fun _ _ b h => nomatch h⟩
theorem witness_free_ends : (let s := atDoor { hitDoor with cycle := .free, served := none } [] base;
      (s.door 0).freePending = false ∧ (s.door 0).state = .hit ∧ (s.door 0).cycle = .free ∧ s.queue 0 = []) ∧
    ({ base with arbiter := { holder := some (.line 3), requests := [.door 0] } } : State).arbiter.requests.contains (.door 0) = true ∧
    ({ door with state := .free, contact := .opened } : Door).contact = .opened ∧
    (holding .freePassage [1, 0] base).orders.inHand.map (fun h => (h.param 0, h.param 1)) = some (2 ^ 0, 0) := by decide +kernel
theorem witness_free_claims : (base.door 0).state = .idle ∧ base.control.runState ≠ .faulted ∧
    base.arbiter = { holder := none, requests := [] } ∧ (Claimant.line 3 ≠ Claimant.door 0) ∧
    (Claimant.door 0 ∉ ([] : List Claimant)) ∧ base.freeRefusal 0 = none := by decide +kernel
theorem witness_coil_back : (let d : Door := { door with state := .outOfService, openLoadHold := true, passRun := 2 };
      d.openLoadHold = true ∧ d.passRun = 2 ∧ d.overcurrentHold = false ∧ d.contact = .closed ∧ d.freePending = false ∧
      (base.setDoor 0 d).queue 0 = [] ∧ ({ d with contact := .opened } : Door).contact = .opened) ∧
    (let d : Door := { hitDoor with
        overRun := 2, params := some { params 120 with iStart := 4000 }, movement := { Movement.cleared with peak := 3750 } };
      (hitting d).arbiter = { holder := some (.door 0), requests := [] } ∧ d.movement.substate = .search ∧
      3750 < d.par.iStart ∧ 3750 ≤ d.movement.peak ∧ d.overRun = 2 ∧ (hitting d).betweenEvents) ∧
    (let d : Door := { sample17 with overRun := 2 };
      d.movement.substate = .recover ∧ d.movement.valley ≤ 3750) := by decide +kernel
theorem witness_supply_low_doors : (let s := hitting hitDoor;
      s.betweenEvents ∧ ({ s.supply with state := .normal, lowRun := 2 } : Supply).lowRun = 2 ∧ (s.door 0).state = .hit ∧
      (s.control.runState = .running) ∧ (s.line 0).queue = []) ∧ (hitting hitDoor).noneWaitsForRoom :=
  ⟨by decide +kernel, waits_of _ rfl rfl⟩
theorem witness_supply_normal_hit : (let s := atDoor door [punch .inward none] { base with supply := { state := .low, lowRun := 0, recoveryRun := 99 } };
      s.queue 0 = [punch .inward none] ∧ (∀ h, h ≠ 0 → s.queue h = []) ∧ (∀ h, (s.door h).freePending = false) ∧ (s.door 0).state = .idle ∧
      (s.door 0).equipped = true ∧ s.arbiter = { holder := none, requests := [] } ∧ s.supply.recoveryRun = 99) := by decide +kernel

end Sys2Proof.Tests
end

/-! ### The amount of a pair (R102, R103) -/

namespace Sys2Proof.Machine

/-- The work part of R102. With a factor up to 32 an overtime minute weighs up to 32 eighths of the rate where a regular one weighs 8,
so the part is largest where all 960 paid minutes are overtime. -/
theorem workAmount_le {rate factor mreg mot : Nat} (hrate : rate ≤ 1048575) (hfactor : factor ≤ 32) (hpaid : mreg + mot ≤ 960) :
    8 * rate * mreg + factor * rate * mot ≤ 32212224000 :=
  calc 8 * rate * mreg + factor * rate * mot
      ≤ 32 * rate * mreg + 32 * rate * mot := Nat.add_le_add
        (Nat.mul_le_mul_right mreg (Nat.mul_le_mul_right rate (by decide))) (Nat.mul_le_mul_right mot (Nat.mul_le_mul_right rate hfactor))
    _ = 32 * rate * (mreg + mot) := (Nat.mul_add ..).symm
    _ ≤ 32 * 1048575 * 960 := Nat.mul_le_mul (Nat.mul_le_mul_left 32 hrate) hpaid

theorem nightAmount_le {premium mn : Nat} (hpremium : premium ≤ 1048575) (hmn : mn ≤ 960) : 8 * premium * mn ≤ 8053056000 :=
  calc 8 * premium * mn ≤ 8 * 1048575 * 960 := Nat.mul_le_mul (Nat.mul_le_mul_left 8 hpremium) hmn

theorem rawAmount_le {rate factor premium mreg mot mn : Nat} (hrate : rate ≤ 1048575) (hfactor : factor ≤ 32)
    (hpremium : premium ≤ 1048575) (hpaid : mreg + mot ≤ 960) (hmn : mn ≤ 960) :
    rawAmount rate factor premium mreg mot mn ≤ 40265280000 :=
  Nat.add_le_add (workAmount_le hrate hfactor hpaid) (nightAmount_le hpremium hmn)

/-- CHOP: the quotient is the only amount whose 480 units from `a * 480` on hold the raw amount. -/
theorem roundAmount_chop_eq_iff (raw a : Nat) : roundAmount false raw = a ↔ a * 480 ≤ raw ∧ raw < a * 480 + 480 := by
  have hchop : roundAmount false raw = raw / 480 := rfl
  rw [hchop]
  omega

/-- HALF_UP is CHOP of the raw amount raised by half of 480. -/
theorem roundAmount_halfUp (raw : Nat) : roundAmount true raw = roundAmount false (raw + 240) := rfl

theorem roundAmount_halfUp_le {raw : Nat} (hraw : raw ≤ 40265280000) : roundAmount true raw ≤ 83886000 := by
  obtain ⟨hlow, -⟩ := (roundAmount_chop_eq_iff (raw + 240) _).mp (roundAmount_halfUp raw).symm
  omega

/-- Settles O16: the formula is the model's own, the bound is that of its two parts, and both roundings are one division. -/
theorem amountIsFormedAndRoundedOnce : Obligations.AmountIsFormedAndRoundedOnce := by
  intro rate factor premium mreg mot mn hrate hfactor hpremium hpaid hmn raw
  have hraw : raw ≤ 40265280000 := rawAmount_le hrate hfactor hpremium hpaid hmn
  refine ⟨rfl, hraw, roundAmount_chop_eq_iff raw, fun a => ?_, roundAmount_halfUp_le hraw⟩
  rw [roundAmount_halfUp]
  exact roundAmount_chop_eq_iff (raw + 240) a

end Sys2Proof.Machine

/-! ### How an event ends: outside the status block nothing of memory is written (R147, R198) -/

namespace Sys2Proof.Machine

/-- A write of one byte leaves every other byte, in a memory of any form. -/
theorem readByte_writeByte_ne (m : Memory) {x y : Nat} (v : Byte) (hne : y ≠ x) :
    readByte (writeByte m x v) y = readByte m y := by
  induction m with
  | nil => simp only [writeByte]; split <;> simp [readByte, hne]
  | cons c m ih =>
    obtain ⟨a, b⟩ := c
    simp only [writeByte]
    split
    · split <;> simp [readByte, hne]
    · split
      · rename_i hxa
        subst hxa
        split <;> simp [readByte, hne]
      · simp only [readByte, ih]

theorem readByte_writeWord_off (m : Memory) {a x : Nat} (w : Word) (hoff : x < a ∨ a + 4 ≤ x) :
    readByte (writeWord m a w) x = readByte m x := by
  rw [writeWord, readByte_writeByte_ne _ _ (by omega), readByte_writeByte_ne _ _ (by omega),
    readByte_writeByte_ne _ _ (by omega), readByte_writeByte_ne _ _ (by omega)]

theorem readByte_writeChanged_off (old new : List Word) (m : Memory) {a x : Nat} (hoff : x < a ∨ a + 4 * new.length ≤ x) :
    readByte (writeChanged m a old new) x = readByte m x := by
  induction new generalizing old m a with
  | nil => cases old <;> rfl
  | cons w ws ih =>
    rw [List.length_cons] at hoff
    cases old with
    | nil => rfl
    | cons o os =>
      rw [writeChanged, ih os _ (by omega)]
      split
      · rfl
      · exact readByte_writeWord_off m w (by omega)

theorem Install.section2_length (i : Install) : i.section2.length = 2 := by
  cases i <;> rfl

theorem State.statusWords_length (s : State) : s.statusWords.length = statusWordCount := by
  simp [State.statusWords, Install.section2_length, Door.section4, Reader.section3, TimeBase.section2, gates, positions,
    statusWordCount]

theorem publish_readByte (before after : State) {x : Nat} (hoff : after.offStatus x) :
    readByte (publish before after).mem x = readByte after.mem x := by
  unfold publish
  split
  · rfl
  · rename_i a ha
    rw [State.storeChanged_mem]
    exact readByte_writeChanged_off _ _ _ (by rw [State.statusWords_length]; exact hoff a ha)

/-- An event that gives no room back ends as `EndsAs` says: after it only the alarm and the status block are written. -/
theorem settled_endsAs (before after : State) (hroom : after.journal.roomGiven = false) :
    EndsAs after (settled before after) := by
  obtain ⟨alarm, stretch, halarm⟩ := followAlarm_frame before after
  rw [settled, State.offerRoom_none after hroom, halarm]
  refine ⟨?_, fun x hx _ => publish_readByte before _ hx⟩
  obtain ⟨m, hm⟩ := publish_frame before { after with control := { after.control with alarm := alarm, stretch := stretch } }
  rw [hm]

/-! ### The order in hand and its answer (R196) -/

theorem State.inHandIs_eq {s : State} {h : InHand} {o : Order} (hin : s.orders.inHand = some h) (ho : h.order = o) :
    s.inHandIs o = some h := by
  simp [State.inHandIs, hin, ho]

/-- An answer leaves the journal as it stands. -/
@[simp] theorem State.answer_journal (s : State) (outs : List Word) (r : OrderResult) :
    (s.answer outs r).journal = s.journal := by
  unfold State.answer
  split
  · rfl
  · rename_i h _
    obtain ⟨c, e, o, m, hf⟩ := State.finishBlock_frame (s.storeAll (s.orders.current + 12 + 4 * h.params.length) outs) h.link r
    rw [hf]
    rfl

/-! ### CLOSING and IDLE entered by a channel just written (R140, R141, R145) -/

@[simp] theorem State.beginCycle_journal (s : State) (g : Gate) : (s.beginCycle g).journal = s.journal := by
  obtain ⟨a, d, l, hf⟩ := s.beginCycle_frame g
  rw [hf]

theorem State.toClosing_setDoor (s : State) (g : Gate) (d : Door) :
    (s.setDoor g d).toClosing g = s.setDoor g { d with
      state := .closing, served := none, openTimer := none, heldTimer := d.heldFrom s.time.osc } := by
  simp [State.toClosing, Door.startHeld_eq, Door.heldFrom]

theorem State.toIdle_setDoor (s : State) (g : Gate) (d : Door) :
    (s.setDoor g d).toIdle g = (s.setDoor g { d with state := .idle, served := none, openTimer := none }).beginCycle g := by
  simp [State.toIdle]

theorem State.toClosingOrIdle_setDoor_opened (s : State) (g : Gate) {d : Door} (hc : d.contact = .opened) :
    (s.setDoor g d).toClosingOrIdle g = s.setDoor g { d with
      state := .closing, served := none, openTimer := none, heldTimer := d.heldFrom s.time.osc } := by
  rw [State.toClosingOrIdle, if_pos (by simpa using hc), State.toClosing_setDoor]

theorem State.toClosingOrIdle_setDoor_closed (s : State) (g : Gate) {d : Door} (hc : d.contact = .closed) :
    (s.setDoor g d).toClosingOrIdle g =
      (s.setDoor g { d with state := .idle, served := none, openTimer := none }).beginCycle g := by
  rw [State.toClosingOrIdle, if_neg (by simp [hc]), State.toIdle_setDoor]

/-! ### REARM DOOR (R141) -/

/-- A channel with its overcurrent hold and the latched OVERCURRENT cleared. -/
def Door.rearmed (d : Door) : Door := { d with overcurrentHold := false, flags := { d.flags with overcurrent := false } }

/-- The open-load hold keeps a rearmed channel where it is. -/
theorem State.rearm_openLoad (s : State) (g : Gate) (hl : (s.door g).openLoadHold = true) :
    s.rearm g = s.setDoor g (s.door g).rearmed := by
  simp [State.rearm, Door.rearmed, hl]

/-- Without the open-load hold a rearmed channel leaves OUT_OF_SERVICE by its contact. -/
theorem State.rearm_leaves (s : State) (g : Gate) (hl : (s.door g).openLoadHold = false) :
    s.rearm g = (s.setDoor g (s.door g).rearmed).toClosingOrIdle g := by
  simp [State.rearm, Door.rearmed, hl]

theorem State.rearmOrder_badGate (s : State) {h : InHand} (hp : 7 < h.param 0) :
    s.rearmOrder h = s.answer [] .badParam := by
  rw [State.rearmOrder, dif_neg (by omega)]

theorem State.rearmOrder_gate (s : State) {h : InHand} {n : Gate} (hp : h.param 0 = n.val) :
    s.rearmOrder h = (if (s.door n).overcurrentHold then s.rearm n else s).answer [] .done := by
  have hn : h.param 0 < 8 := by omega
  have hgate : (⟨h.param 0, hn⟩ : Gate) = n := Fin.ext hp
  simp only [State.rearmOrder, dif_pos hn, hgate]

/-- The command ends as its order is answered, where what the order did left the journal standing. -/
theorem exec_rearmDoor_endsAs {s u : State} {h : InHand} {r : OrderResult} (hb : s.betweenEvents)
    (hin : s.orders.inHand = some h) (ho : h.order = .rearmDoor) (hu : s.rearmOrder h = u.answer [] r)
    (hj : u.journal = s.journal) : ∃ t, exec .rearmDoor s = .next t ∧ EndsAs (u.answer [] r) t := by
  have hexec : exec .rearmDoor s = execRearmDoor s := rfl
  refine ⟨settled s (u.answer [] r), ?_, settled_endsAs _ _ (by rw [State.answer_journal, hj]; exact hb)⟩
  rw [hexec, execRearmDoor, State.inHandIs_eq hin ho, ← hu]
  rfl

/-- Settles O42: each branch of R141 gives the state that the order answers, and every answer ends the event alike. -/
theorem rearmDoorClearsTheOvercurrentHold : Obligations.RearmDoorClearsTheOvercurrentHold := by
  intro h s hb hin ho _
  refine ⟨fun hp => exec_rearmDoor_endsAs hb hin ho (s.rearmOrder_badGate hp) rfl, fun n hp => ?_⟩
  have horder := s.rearmOrder_gate hp
  refine ⟨fun hold => ?_, fun hold hload => ?_, fun hold hload hcontact => ?_, fun hold hload hcontact => ?_⟩
  · exact exec_rearmDoor_endsAs hb hin ho (by rw [horder, hold]; rfl) rfl
  · rw [hold, if_pos rfl, s.rearm_openLoad n hload] at horder
    exact exec_rearmDoor_endsAs hb hin ho horder rfl
  · rw [hold, if_pos rfl, s.rearm_leaves n hload, s.toClosingOrIdle_setDoor_opened n (d := (s.door n).rearmed) hcontact] at horder
    exact exec_rearmDoor_endsAs hb hin ho horder rfl
  · rw [hold, if_pos rfl, s.rearm_leaves n hload, s.toClosingOrIdle_setDoor_closed n (d := (s.door n).rearmed) hcontact] at horder
    exact exec_rearmDoor_endsAs hb hin ho horder (State.beginCycle_journal _ n)

end Sys2Proof.Machine

/-! ### What the law of the hit slot reads: arbiter, doors and lines, and the operations that write none of them (R154–R158) -/

namespace Sys2Proof.Machine

/-- The parts of the state that the law of the hit slot reads. -/
def State.slotParts (s : State) : Arbiter × Vector Door 8 × Vector Line 8 := (s.arbiter, s.doors, s.bells.lines)

section
variable (s : State)

@[simp] theorem State.withTime_slotParts (x : TimeBase) : (s.withTime x).slotParts = s.slotParts := rfl
@[simp] theorem State.withEngine_slotParts (x : Engine) : (s.withEngine x).slotParts = s.slotParts := rfl
@[simp] theorem State.withSupply_slotParts (x : Supply) : (s.withSupply x).slotParts = s.slotParts := rfl
@[simp] theorem State.withJournal_slotParts (x : Journal) : (s.withJournal x).slotParts = s.slotParts := rfl
@[simp] theorem State.withOrders_slotParts (x : OrderUnit) : (s.withOrders x).slotParts = s.slotParts := rfl
@[simp] theorem State.withControl_slotParts (x : Control) : (s.withControl x).slotParts = s.slotParts := rfl
@[simp] theorem State.setReader_slotParts (p : Fin 16) (x : Reader) : (s.setReader p x).slotParts = s.slotParts := rfl
@[simp] theorem State.setLink_slotParts (k : LinkNo) (x : Link) : (s.setLink k x).slotParts = s.slotParts := rfl
@[simp] theorem State.setQueue_slotParts (g : Gate) (q : List Punch) : (s.setQueue g q).slotParts = s.slotParts := rfl
@[simp] theorem State.setFreeSend_slotParts (g : Gate) (f : Option FreeSend) : (s.setFreeSend g f).slotParts = s.slotParts := rfl
@[simp] theorem State.store_slotParts (a : Nat) (w : Word) : (s.store a w).slotParts = s.slotParts := rfl
@[simp] theorem State.storeAll_slotParts (a : Nat) (ws : List Word) : (s.storeAll a ws).slotParts = s.slotParts := rfl
@[simp] theorem State.setWorker_slotParts (r : WorkerRef) (w : Worker) : (s.setWorker r w).slotParts = s.slotParts := rfl
@[simp] theorem State.setWorkerOpenIn_slotParts (r : WorkerRef) (w : Worker) :
    (s.setWorkerOpenIn r w).slotParts = s.slotParts := by
  rw [State.setWorkerOpenIn, State.storeAll_slotParts, State.setWorker_slotParts]
@[simp] theorem State.latch_slotParts (f : Latched → Latched) : (s.latch f).slotParts = s.slotParts := rfl
@[simp] theorem State.takeFree_slotParts : s.takeFree.2.slotParts = s.slotParts := rfl
@[simp] theorem State.reserve_slotParts (n : Nat) : (s.reserve n).slotParts = s.slotParts := rfl

theorem State.withBells_slotParts {b : Bells} (hb : b.lines = s.bells.lines := by rfl) :
    (s.withBells b).slotParts = s.slotParts := by
  simp [State.slotParts, hb]

/-- A run of operations that write none of the parts writes none. -/
theorem foldl_slotParts {α : Type} {f : State → α → State} (hf : ∀ s a, (f s a).slotParts = s.slotParts) (l : List α)
    (s : State) : (l.foldl f s).slotParts = s.slotParts := by
  induction l generalizing s with
  | nil => rfl
  | cons a l ih => rw [List.foldl_cons, ih, hf]

/-! #### The journal, exceptions and closes -/

@[simp] theorem State.releaseWalk_slotParts : s.releaseWalk.slotParts = s.slotParts := by
  obtain ⟨j, l, h⟩ := s.releaseWalk_frame
  rw [h]; rfl

@[simp] theorem State.requestRoom_slotParts (n : Nat) : (s.requestRoom n).2.slotParts = s.slotParts := by
  obtain ⟨j, l, h⟩ := s.requestRoom_frame n
  rw [h]; rfl

@[simp] theorem State.requestClose_slotParts (n : Nat) : (s.requestClose n).2.slotParts = s.slotParts := by
  unfold State.requestClose
  dsimp only
  split <;> simp

@[simp] theorem State.requestPresentation_slotParts : s.requestPresentation.2.slotParts = s.slotParts := by
  unfold State.requestPresentation
  dsimp only
  split <;> simp

@[simp] theorem State.spend_slotParts (n : Nat) (xs : List JRecord) : (s.spend n xs).slotParts = s.slotParts := by
  obtain ⟨j, m, h⟩ := s.spend_frame n xs
  rw [h]; rfl

@[simp] theorem State.notice_slotParts (x : JRecord) : (s.notice x).slotParts = s.slotParts := by
  obtain ⟨j, m, l, h⟩ := s.notice_frame x
  rw [h]; rfl

@[simp] theorem State.doorNoticeAt_slotParts (g : Gate) (c : DoorCause) (b : Bool) (v : Nat) :
    (s.doorNoticeAt g c b v).slotParts = s.slotParts := s.notice_slotParts _

@[simp] theorem State.bellNoticeAt_slotParts (c : BellCause) (n e : Option Nat) (v : Nat) :
    (s.bellNoticeAt c n e v).slotParts = s.slotParts := s.notice_slotParts _

@[simp] theorem State.fillSlot_slotParts (i : Nat) (x : SlotFill) (quiet : Bool) :
    (s.fillSlot i x quiet).slotParts = s.slotParts := by
  unfold State.fillSlot
  split
  · rfl
  · dsimp only; split <;> simp

@[simp] theorem State.fillTaken_slotParts (t : ExcTake) (x : SlotFill) (r : Option PayRule) :
    (s.fillTaken t x r).slotParts = s.slotParts := by
  unfold State.fillTaken
  split <;> simp

@[simp] theorem State.closePair_slotParts (ref : WorkerRef) (o : OpenIn) (k : CloseKind) (out : Option Stamp) (g r : Nat)
    (f : RecFlags) (after : Worker → Worker) : (s.closePair ref o k out g r f after).slotParts = s.slotParts := by
  unfold State.closePair
  dsimp only
  split <;> simp

@[simp] theorem State.commitInward_slotParts (ref : WorkerRef) (x : Option Stamp) (g : Gate) (p : Fin 16) (noMove free : Bool) :
    (s.commitInward ref x g p noMove free).slotParts = s.slotParts := by
  simp [State.commitInward]

@[simp] theorem State.commitOutward_slotParts (ref : WorkerRef) (x : Option Stamp) (g : Gate) (p : Fin 16)
    (soft noMove free : Bool) : (s.commitOutward ref x g p soft noMove free).slotParts = s.slotParts := by
  unfold State.commitOutward
  dsimp only
  split <;> simp

@[simp] theorem State.commitEnded_slotParts (g : Gate) (p : Punch) (c : Option VoidCause) :
    (s.commitEnded g p c).slotParts = s.slotParts := by
  simp [State.commitEnded]

/-! #### The run state, the order chain, the sweep and the carry, the end of an event -/

@[simp] theorem State.beginStart_slotParts : s.beginStart.slotParts = s.slotParts := rfl

@[simp] theorem State.stopCheck_slotParts : s.stopCheck.slotParts = s.slotParts := by
  obtain ⟨c, e, o, h⟩ := s.stopCheck_frame
  rw [h]; rfl

@[simp] theorem State.committed_slotParts (g : Gate) : (s.committed g).slotParts = s.slotParts := by
  simp [State.committed, State.dropHead]

@[simp] theorem State.endWalk_slotParts : s.endWalk.slotParts = s.slotParts := by
  simp [State.endWalk]

@[simp] theorem State.finishBlock_slotParts (link : Word) (r : OrderResult) : (s.finishBlock link r).slotParts = s.slotParts := by
  obtain ⟨c, e, o, m, h⟩ := s.finishBlock_frame link r
  rw [h]; rfl

@[simp] theorem State.answer_slotParts (outs : List Word) (r : OrderResult) : (s.answer outs r).slotParts = s.slotParts := by
  unfold State.answer
  split <;> simp

@[simp] theorem State.freeWords_slotParts (n : Nat) : (State.freeWords n s).2.slotParts = s.slotParts := by
  induction n generalizing s with
  | zero => rfl
  | succ n ih => exact ih s.takeFree.2

@[simp] theorem State.turnAway_slotParts (n : Nat) (r : OrderResult) : (s.turnAway n r).slotParts = s.slotParts := by
  simp [State.turnAway]

@[simp] theorem State.endInstall_slotParts (r : OrderResult) : (s.endInstall r).slotParts = s.slotParts := by
  simp [State.endInstall]

@[simp] theorem State.abortInHand_slotParts (h : InHand) : (s.abortInHand h).slotParts = s.slotParts := by
  unfold State.abortInHand
  split
  · split <;> simp
  · rfl

@[simp] theorem State.markEnd_slotParts : s.markEnd.slotParts = s.slotParts := by
  unfold State.markEnd
  split <;> simp

@[simp] theorem State.abortWalk_slotParts : s.abortWalk.slotParts = s.slotParts := by
  unfold State.abortWalk
  split
  · split <;> simp
  · rfl

@[simp] theorem State.sweepOn_slotParts (n : Nat) : (s.sweepOn n).slotParts = s.slotParts := by
  unfold State.sweepOn State.endSweep
  dsimp only
  split
  · split <;> rfl
  · rfl

@[simp] theorem State.sweepClose_slotParts (n : Nat) {close : State → State} (hc : ∀ s, (close s).slotParts = s.slotParts) :
    (s.sweepClose n close).slotParts = s.slotParts := by
  unfold State.sweepClose
  dsimp only
  split <;> simp [hc]

@[simp] theorem State.sweepStep_slotParts : s.sweepStep.slotParts = s.slotParts := by
  unfold State.sweepStep
  split
  · rfl
  · dsimp only
    split <;> simp [State.closeAuto, State.closeOffShift]

@[simp] theorem State.completeInstall_slotParts (c : Carry) : (s.completeInstall c).slotParts = s.slotParts := by
  unfold State.completeInstall
  dsimp only
  split <;> simp

@[simp] theorem State.carryTaken_slotParts (old : Table) (c : Carry) : (s.carryTaken old c).slotParts = s.slotParts := by
  unfold State.carryTaken
  split <;> simp

@[simp] theorem State.matchStep_slotParts (old : Table) (c : Carry) (b : Nat) : (s.matchStep old c b).slotParts = s.slotParts := by
  unfold State.matchStep
  dsimp only
  split <;> simp

@[simp] theorem State.oldOnlyTry_slotParts (old : Table) (c : Carry) (b : Nat) :
    (s.oldOnlyTry old c b).slotParts = s.slotParts := by
  unfold State.oldOnlyTry
  dsimp only
  split
  · simp
  · split
    · simp
    · split <;> simp

@[simp] theorem State.offerRoom_slotParts : s.offerRoom.slotParts = s.slotParts := by
  unfold State.offerRoom
  split
  · dsimp only
    rw [State.withJournal_slotParts]
    split
    · simp
    · split
      · split <;> simp
      · rfl
    · rfl
  · rfl

/-- The end of an event offers room, sets the alarm and shows the status block: it leaves the slot, the doors and the lines. -/
@[simp] theorem settled_slotParts (before after : State) : (settled before after).slotParts = after.slotParts := by
  obtain ⟨a, x, ha⟩ := followAlarm_frame before after.offerRoom
  obtain ⟨m, hm⟩ := publish_frame before (followAlarm before after.offerRoom)
  rw [settled, hm, ha]
  exact after.offerRoom_slotParts

/-! #### Reports, readers, the time base -/

@[simp] theorem State.changeServed_slotParts (g : Gate) (f : Punch → Punch) : (s.changeServed g f).slotParts = s.slotParts := by
  obtain ⟨q, h⟩ := s.changeServed_frame g f
  rw [h]; rfl

@[simp] theorem State.reportServed_slotParts (g : Gate) (o : PassageReport) : (s.reportServed g o).slotParts = s.slotParts :=
  s.changeServed_slotParts g _

@[simp] theorem State.markNoMove_slotParts (g : Gate) : (s.markNoMove g).slotParts = s.slotParts := s.changeServed_slotParts g _

@[simp] theorem State.reportAll_slotParts (g : Gate) (o : PassageReport) : (s.reportAll g o).slotParts = s.slotParts := rfl

theorem eachPosition_slotParts {f : Fin 16 → State → State} (hf : ∀ p s, (f p s).slotParts = s.slotParts) :
    (eachPosition f s).slotParts = s.slotParts := foldl_slotParts (fun s p => hf p s) _ s

@[simp] theorem State.formMap_slotParts : s.formMap.slotParts = s.slotParts := by
  unfold State.formMap
  split
  · rfl
  · exact eachPosition_slotParts s fun p s => s.setReader_slotParts p _

@[simp] theorem State.indicate_slotParts (p : Fin 16) (c : IndCode) (n : Nat) : (s.indicate p c n).slotParts = s.slotParts := rfl

@[simp] theorem State.readerNoticeAt_slotParts (p : Fin 16) (c : ReaderCause) : (s.readerNoticeAt p c).slotParts = s.slotParts :=
  s.notice_slotParts _

@[simp] theorem State.exchangeFails_slotParts (p : Fin 16) (f : ExchangeFailure) :
    (s.exchangeFails p f).slotParts = s.slotParts := by
  unfold State.exchangeFails
  dsimp only
  split
  · split <;> simp
  · rfl

@[simp] theorem State.comeOnline_slotParts (p : Fin 16) (n : Nat) : (s.comeOnline p n).slotParts = s.slotParts := by
  unfold State.comeOnline
  dsimp only
  split <;> simp

@[simp] theorem State.flagRises_slotParts (p : Fin 16) (b : Bool) (c : ReaderCause) :
    (s.flagRises p b c).slotParts = s.slotParts := by
  unfold State.flagRises
  split <;> simp

@[simp] theorem State.takeReport_slotParts (p : Fin 16) (x : Response) : (s.takeReport p x).slotParts = s.slotParts := by
  unfold State.takeReport
  split
  · rfl
  · dsimp only
    split
    · rfl
    · split
      · simp
      · split <;> rfl

@[simp] theorem State.goodResponse_slotParts (p : Fin 16) (x : Response) : (s.goodResponse p x).slotParts = s.slotParts := by
  simp [State.goodResponse, State.takeStatus]

@[simp] theorem State.takeFrame_slotParts (p : Fin 16) (a : Fin 4) (bytes : List Byte) (stop : Bool) :
    (s.takeFrame p a bytes stop).slotParts = s.slotParts := by
  unfold State.takeFrame
  split <;> simp

@[simp] theorem State.sweepBoundary_slotParts : s.sweepBoundary.slotParts = s.slotParts := by
  unfold State.sweepBoundary
  split
  · split <;> rfl
  · rfl

@[simp] theorem State.stepSilence_slotParts : s.stepSilence.slotParts = s.slotParts := by
  unfold State.stepSilence
  dsimp only
  split
  · split <;> simp
  · rfl

@[simp] theorem State.switchBellTable_slotParts : s.switchBellTable.slotParts = s.slotParts := by
  unfold State.switchBellTable
  split <;> rfl

/-! #### Orders that touch no door and no line -/

@[simp] theorem State.writePointer_slotParts (w : Word) : (s.writePointer w).slotParts = s.slotParts := by
  unfold State.writePointer
  split
  · split <;> simp
  · split <;> simp

@[simp] theorem State.readBlock_slotParts : s.readBlock.slotParts = s.slotParts := by
  unfold State.readBlock
  dsimp only
  split
  · simp
  · split
    · simp
    · split <;> simp

@[simp] theorem State.restarted_slotParts : s.restarted.slotParts = s.slotParts := by
  unfold State.restarted
  dsimp only
  split <;> simp

@[simp] theorem State.orderTime_slotParts (h : InHand) : (s.orderTime h).slotParts = s.slotParts := by
  unfold State.orderTime
  split <;> simp [State.setClock]

@[simp] theorem State.installBells_slotParts (h : InHand) : (s.installBells h).slotParts = s.slotParts := by
  unfold State.installBells
  dsimp only
  split
  · simp
  · split
    · simp
    · split <;> simp [State.withBells_slotParts]

@[simp] theorem State.restartJournal_slotParts : s.restartJournal.slotParts = s.slotParts := by
  simp [State.restartJournal]

@[simp] theorem State.rewriteStatus_slotParts (is : List Nat) : (s.rewriteStatus is).slotParts = s.slotParts := by
  obtain ⟨m, h⟩ := s.rewriteStatus_frame is
  rw [h]; rfl

@[simp] theorem State.installBegin_slotParts (h : InHand) : (s.installBegin h).slotParts = s.slotParts := by
  unfold State.installBegin
  dsimp only
  split
  · simp
  · split
    · simp
    · split
      · simp
      · split <;> simp

@[simp] theorem State.verifyRecord_slotParts (t : Table) (i : Nat) : (s.verifyRecord t i).slotParts = s.slotParts := by
  unfold State.verifyRecord
  split <;> simp

@[simp] theorem State.amend_slotParts (h : InHand) : (s.amend h).slotParts = s.slotParts := by
  unfold State.amend
  split
  · simp
  · split <;> simp

@[simp] theorem State.presenceUnmet_slotParts (r : OrderResult) : (s.presenceUnmet r).slotParts = s.slotParts := by
  simp [State.presenceUnmet]

@[simp] theorem State.presenceBusy_slotParts (w : Worker) (o c : Nat) : (s.presenceBusy w o c).slotParts = s.slotParts := by
  unfold State.presenceBusy
  dsimp only
  split <;> simp

@[simp] theorem State.presenceDone_slotParts (p : Presence) (n : Nat) : (s.presenceDone p n).slotParts = s.slotParts :=
  s.answer_slotParts _ _

@[simp] theorem State.setPresence_slotParts (h : InHand) : (s.setPresence h).slotParts = s.slotParts := by
  unfold State.setPresence
  dsimp only
  split
  · simp
  · split
    · simp
    · split
      · simp
      · split
        · simp
        · split
          · simp
          · split <;> simp

@[simp] theorem State.totalsBegin_slotParts (h : InHand) : (s.totalsBegin h).slotParts = s.slotParts := by
  unfold State.totalsBegin
  dsimp only
  split <;> split <;> simp

@[simp] theorem State.takeWorker_slotParts (t : Table) (x : TakeTotals) : (s.takeWorker t x).slotParts = s.slotParts := by
  unfold State.takeWorker
  dsimp only
  split <;> simp

@[simp] theorem State.settle_slotParts (h : InHand) (slot badge : Nat) (sat : Bool) (w : Option (WorkerRef × Worker)) :
    (s.settle h slot badge sat w).slotParts = s.slotParts := by
  unfold State.settle
  dsimp only
  split <;> simp

@[simp] theorem State.settleException_slotParts (h : InHand) : (s.settleException h).slotParts = s.slotParts := by
  unfold State.settleException
  dsimp only
  split
  · simp
  · split
    · simp
    · split
      · simp
      · split
        · split <;> simp
        · simp

@[simp] theorem State.installShift_slotParts (h : InHand) : (s.installShift h).slotParts = s.slotParts := by
  unfold State.installShift
  dsimp only
  split
  · simp
  · split <;> simp

@[simp] theorem State.recount_slotParts (w e : Table) : (s.recount w e).slotParts = s.slotParts :=
  foldl_slotParts (fun s _ => s.setWorker_slotParts _ _) _ s

@[simp] theorem State.writeCut_slotParts (cut : List (Nat × Word)) : (s.writeCut cut).slotParts = s.slotParts :=
  foldl_slotParts (fun s _ => s.store_slotParts _ _) _ s

@[simp] theorem State.failStart_slotParts (r : StartResult) (i : Nat) : (s.failStart r i).slotParts = s.slotParts := rfl

/-! #### Presentations that come to no acceptance -/

@[simp] theorem State.deny_slotParts (p : Presentation) (d : Direction) (r : DenialReason) :
    (s.deny p d r).slotParts = s.slotParts := by
  simp [State.deny]

@[simp] theorem State.turnBack_slotParts (p : Presentation) (c : IndCode) : (s.turnBack p c).slotParts = s.slotParts := by
  simp [State.turnBack]

@[simp] theorem State.directionFor_slotParts (p : Presentation) (w : Worker) : (s.directionFor p w).2.slotParts = s.slotParts := by
  unfold State.directionFor
  split
  · split <;> rfl
  · rfl

end

end Sys2Proof.Machine

/-! ### The law of the hit slot with some claimants left out, and the arbiter's operations (R154–R158) -/

namespace Sys2Proof.Machine

/-- A claimant that the law wants to be the holder: a door in its hit phase; a line from its pulse start to its release, or granted
and not yet in its pulse (R158, R166). -/
def State.usesSlot (s : State) : Claimant → Prop
  | .door g => (s.door g).state = .hit
  | .line n => (s.line n).releaseAt.isSome = true ∨ (s.line n).state = .claim ∧ (s.line n).granted = true

/-- Claimants that the law of the hit slot leaves out for a time. -/
abbrev Exempt := Claimant → Prop

def Exempt.nobody : Exempt := fun _ => False
def Exempt.all : Exempt := fun _ => True
def Exempt.also (E : Exempt) (c : Claimant) : Exempt := fun d => d = c ∨ E d
def Exempt.except (E : Exempt) (c : Claimant) : Exempt := fun d => E d ∧ d ≠ c
def Exempt.exceptDoors (E : Exempt) : Exempt := fun d => E d ∧ ∀ g, d ≠ .door g
def Exempt.exceptLines (E : Exempt) : Exempt := fun d => E d ∧ ∀ n, d ≠ .line n

/-- The law of the hit slot for every claimant but those of `E`. Within an event a claimant may release the slot before it
leaves its hit phase, and LOW and a memory fault empty the arbiter before the doors and lines act: what an operation finds there
is the law with these claimants left out. -/
structure State.SlotLawBut (s : State) (E : Exempt) : Prop where
  once : s.arbiter.onceEach
  claimed : ∀ n, (s.line n).state = .claim → (s.line n).releaseAt = none
  holds : ∀ c, ¬ E c → s.usesSlot c → s.arbiter.holder = some c

theorem State.slotLaw_iff (s : State) : s.slotLaw ↔ s.SlotLawBut .nobody := by
  constructor
  · rintro ⟨once, hdoor, hline, hclaim⟩
    refine ⟨once, fun n hn => (hclaim n hn).1, fun c _ hc => ?_⟩
    cases c with
    | door g => exact hdoor g hc
    | line n => exact hc.elim (hline n) fun hc => (hclaim n hc.1).2 hc.2
  · rintro ⟨once, claimed, holds⟩
    exact ⟨once, fun g hg => holds (.door g) nofun hg, fun n hn => holds (.line n) nofun (.inl hn),
      fun n hn => ⟨claimed n hn, fun hg => holds (.line n) nofun (.inr ⟨hn, hg⟩)⟩⟩

theorem State.SlotLawBut.mono {s : State} {E F : Exempt} (h : s.SlotLawBut E) (hEF : ∀ c, E c → F c) : s.SlotLawBut F :=
  ⟨h.once, h.claimed, fun c hc => h.holds c fun hE => hc (hEF c hE)⟩

theorem State.SlotLawBut.of_except {s : State} {E : Exempt} {c : Claimant} (h : s.SlotLawBut (E.except c)) : s.SlotLawBut E :=
  h.mono fun _ hd => hd.1

theorem State.SlotLawBut.also {s : State} {E : Exempt} (h : s.SlotLawBut E) (c : Claimant) : s.SlotLawBut (E.also c) :=
  h.mono fun _ => .inr

/-- A claimant left out and brought back under the law. -/
theorem State.SlotLawBut.of_also_except {s : State} {E : Exempt} {c : Claimant} (h : s.SlotLawBut ((E.also c).except c)) :
    s.SlotLawBut (E.except c) :=
  h.mono fun _ ⟨hd, hne⟩ => ⟨hd.resolve_left hne, hne⟩

theorem State.SlotLawBut.of_slotParts {s t : State} {E : Exempt} (h : s.SlotLawBut E) (hp : t.slotParts = s.slotParts) :
    t.SlotLawBut E := by
  obtain ⟨ha, hd, hl⟩ : t.arbiter = s.arbiter ∧ t.doors = s.doors ∧ t.bells.lines = s.bells.lines := by
    simpa [State.slotParts] using hp
  have hdoor (g : Gate) : t.door g = s.door g := by simp [State.door, hd]
  have hline (n : LineNo) : t.line n = s.line n := by simp [State.line, hl]
  refine ⟨ha ▸ h.once, fun n => hline n ▸ h.claimed n, fun c hc hu => ha ▸ h.holds c hc ?_⟩
  cases c with
  | door g => simpa [State.usesSlot, hdoor] using hu
  | line n => simpa [State.usesSlot, hline] using hu

section
variable {s : State} {E : Exempt} (h : s.SlotLawBut E)
include h

/-! #### A door or a line written -/

theorem State.SlotLawBut.setDoor_keeps {g : Gate} {d : Door} (hd : d.state = .hit → (s.door g).state = .hit) :
    (s.setDoor g d).SlotLawBut E := by
  refine ⟨h.once, h.claimed, fun c hc hu => h.holds c hc ?_⟩
  cases c with
  | line n => exact hu
  | door k =>
    simp only [State.usesSlot, State.door_setDoor] at hu ⊢
    split at hu
    · next hk => exact hk ▸ hd hu
    · exact hu

theorem State.SlotLawBut.setDoor_sameState {g : Gate} {d : Door} (hd : d.state = (s.door g).state := by rfl) :
    (s.setDoor g d).SlotLawBut E := h.setDoor_keeps (hd ▸ ·)

/-- A door out of its hit phase is no longer left out. -/
theorem State.SlotLawBut.setDoor_leaves {g : Gate} {d : Door} (hd : d.state ≠ .hit) :
    (s.setDoor g d).SlotLawBut (E.except (.door g)) := by
  refine ⟨h.once, h.claimed, fun c hc hu => ?_⟩
  have hne : c ≠ .door g := by
    rintro rfl
    exact hd (by simpa [State.usesSlot] using hu)
  exact (h.setDoor_keeps fun hh => absurd hh hd).holds c (fun hE => hc ⟨hE, hne⟩) hu

theorem State.SlotLawBut.setLine_keeps {n : LineNo} {l : Line} (hr : l.releaseAt = (s.line n).releaseAt)
    (hc : l.state = .claim → (s.line n).state = .claim ∧ l.granted = (s.line n).granted) : (s.setLine n l).SlotLawBut E := by
  refine ⟨h.once, fun k hk => ?_, fun c hE hu => h.holds c hE ?_⟩
  · rw [State.line_setLine] at hk ⊢
    split at hk
    · next hnk =>
      subst hnk
      rw [if_pos rfl, hr]
      exact h.claimed n (hc hk).1
    · next hnk => rw [if_neg hnk]; exact h.claimed k hk
  · cases c with
    | door g => exact hu
    | line k =>
      simp only [State.usesSlot, State.line_setLine] at hu ⊢
      split at hu
      · next hnk =>
        subst hnk
        exact hu.imp (hr ▸ ·) fun ⟨hs, hg⟩ => ⟨(hc hs).1, (hc hs).2 ▸ hg⟩
      · exact hu

theorem State.SlotLawBut.setLine_sameClaim {n : LineNo} {l : Line} (hr : l.releaseAt = (s.line n).releaseAt := by rfl)
    (hs : l.state = (s.line n).state := by rfl) (hg : l.granted = (s.line n).granted := by rfl) : (s.setLine n l).SlotLawBut E :=
  h.setLine_keeps hr fun hc => ⟨hs ▸ hc, hg⟩

/-- A line that neither runs its hit phase nor holds a grant is no longer left out. -/
theorem State.SlotLawBut.setLine_quiet {n : LineNo} {l : Line} (hr : l.releaseAt = none)
    (hg : l.state = .claim → l.granted = false) :
    (s.setLine n l).SlotLawBut (E.except (.line n)) := by
  refine ⟨h.once, fun k hk => ?_, fun c hE hu => ?_⟩
  · rw [State.line_setLine] at hk ⊢
    split at hk
    · next hnk => rw [if_pos hnk, hr]
    · next hnk => rw [if_neg hnk]; exact h.claimed k hk
  · have hne : c ≠ .line n := by
      rintro rfl
      simp only [State.usesSlot, State.line_setLine, if_pos, hr] at hu
      simp_all
    have hold := h.holds c fun hc => hE ⟨hc, hne⟩
    cases c with
    | door g => exact hold hu
    | line k =>
      have hnk : n ≠ k := fun e => hne (e ▸ rfl)
      exact hold (by simpa [State.usesSlot, hnk] using hu)

/-- The holder's line starts its hit phase (R166). -/
theorem State.SlotLawBut.setLine_holder {n : LineNo} {l : Line} (hh : s.arbiter.holder = some (.line n)) (hl : l.state ≠ .claim) :
    (s.setLine n l).SlotLawBut E := by
  refine ⟨h.once, fun k hk => ?_, fun c hE hu => ?_⟩
  · rw [State.line_setLine] at hk ⊢
    split at hk
    · exact absurd hk hl
    · next hnk => rw [if_neg hnk]; exact h.claimed k hk
  · by_cases hne : c = .line n
    · rw [hne]; exact hh
    · refine h.holds c hE ?_
      cases c with
      | door g => exact hu
      | line k =>
        have hnk : n ≠ k := fun e => hne (e ▸ rfl)
        simpa [State.usesSlot, hnk] using hu

/-! #### Grant, claim, release, withdrawal (R154–R156) -/

omit h in
/-- A grant turns no one but its claimant into a user of the slot, and leaves every line's claim as it was. -/
theorem State.grantTo_usesSlot (s : State) {c d : Claimant} (hne : d ≠ c) : (s.grantTo c).usesSlot d ↔ s.usesSlot d := by
  cases c with
  | door g =>
    cases d with
    | line n => rfl
    | door k =>
      have hk : g ≠ k := fun e => hne (e ▸ rfl)
      simp only [State.usesSlot, State.grantTo, State.door_setDoor, if_neg hk]
      rfl
  | line n =>
    cases d with
    | door g => rfl
    | line k =>
      have hk : n ≠ k := fun e => hne (e ▸ rfl)
      simp only [State.usesSlot, State.grantTo, State.line_setLine, if_neg hk]
      rfl

omit h in
theorem State.grantTo_line (s : State) (c : Claimant) (n : LineNo) :
    ((s.grantTo c).line n).state = (s.line n).state ∧ ((s.grantTo c).line n).releaseAt = (s.line n).releaseAt := by
  cases c with
  | door g => exact ⟨rfl, rfl⟩
  | line k =>
    simp only [State.grantTo, State.line_setLine]
    split
    · next hk =>
      subst hk
      unfold Line.grant
      split <;> exact ⟨rfl, rfl⟩
    · exact ⟨rfl, rfl⟩

omit h in
theorem State.grantTo_arbiter (s : State) (c : Claimant) : (s.grantTo c).arbiter = { s.arbiter with holder := some c } := by
  cases c <;> rfl

/-- With the slot free no one uses it, so the head of the list can take it. -/
theorem State.SlotLawBut.grantNext : s.grantNext.SlotLawBut E := by
  unfold State.grantNext
  split
  · next hgrant =>
    have hfree : s.arbiter.holder = none := by simp_all
    split
    · exact h
    · next c cs hreq =>
      obtain ⟨hnodup, -⟩ := h.once
      rw [hreq, List.nodup_cons] at hnodup
      obtain ⟨hc, hcs⟩ := hnodup
      let u := s.withArbiter { s.arbiter with requests := cs }
      refine ⟨?_, fun n hn => ?_, fun d hd hd' => ?_⟩
      · rw [State.grantTo_arbiter]
        exact ⟨hcs, fun d hd => (Option.some.inj hd) ▸ hc⟩
      · obtain ⟨hstate, hrelease⟩ := u.grantTo_line c n
        exact hrelease.trans (h.claimed n (hstate ▸ hn))
      · rw [State.grantTo_arbiter]
        by_cases hdc : d = c
        · rw [hdc]
        · have := h.holds d hd ((u.grantTo_usesSlot hdc).mp hd')
          simp [hfree] at this
  · exact h

theorem State.SlotLawBut.claimSlot (c : Claimant) : (s.claimSlot c).SlotLawBut E := by
  unfold State.claimSlot
  split
  · exact h
  · split
    · exact h
    · next hnew =>
      obtain ⟨hholder, hlist⟩ := not_or.mp hnew
      obtain ⟨hnodup, hwait⟩ := h.once
      refine State.SlotLawBut.grantNext ⟨⟨?_, fun d hd => ?_⟩, h.claimed, h.holds⟩
      · exact List.nodup_append.mpr ⟨hnodup, by simp, fun a ha b hb hab => hlist (by simp_all)⟩
      · have hdc : d ≠ c := fun e => hholder (e ▸ hd)
        simpa [hdc] using hwait d hd

/-- A claimant gives the slot back when it no longer uses it, or when it is left out of the law. -/
theorem State.SlotLawBut.releaseSlot {c : Claimant} (hc : s.usesSlot c → E c) : (s.releaseSlot c).SlotLawBut E := by
  unfold State.releaseSlot
  split
  · next hholder =>
    refine State.SlotLawBut.grantNext ⟨⟨h.once.1, fun d hd => by simp at hd⟩, h.claimed, fun d hd hd' => ?_⟩
    have hdc := h.holds d hd hd'
    rw [hholder] at hdc
    obtain rfl := Option.some.inj hdc
    exact absurd (hc hd') hd
  · exact h

theorem State.SlotLawBut.withdrawClaim {c : Claimant} (hc : s.usesSlot c → E c) : (s.withdrawClaim c).SlotLawBut E := by
  unfold State.withdrawClaim
  split
  · exact ⟨⟨h.once.1.erase c, fun d hd hmem => h.once.2 d hd (List.mem_of_mem_erase hmem)⟩, h.claimed, h.holds⟩
  · exact h.releaseSlot hc

/-- The arbiter emptied leaves every claimant out until the doors and the lines have acted (R157). -/
theorem State.SlotLawBut.emptyArbiter : s.emptyArbiter.SlotLawBut .all :=
  ⟨⟨List.nodup_nil, fun _ hd => by simp [State.emptyArbiter] at hd⟩, h.claimed, fun c hc => absurd trivial hc⟩

end

/-! #### Operations made for each gate and for each line -/

section
variable {E : Exempt}

theorem eachGate_slotLawBut {f : Gate → State → State} (hf : ∀ g s, s.SlotLawBut E → (f g s).SlotLawBut E) {s : State}
    (h : s.SlotLawBut E) : (eachGate f s).SlotLawBut E :=
  List.foldlRecOn (motive := fun s => s.SlotLawBut E) gates _ h fun s hs g _ => hf g s hs

theorem eachLine_slotLawBut {f : LineNo → State → State} (hf : ∀ n s, s.SlotLawBut E → (f n s).SlotLawBut E) {s : State}
    (h : s.SlotLawBut E) : (eachLine f s).SlotLawBut E :=
  List.foldlRecOn (motive := fun s => s.SlotLawBut E) lineNos _ h fun s hs n _ => hf n s hs

/-- Operations that each bring one claimant back under the law bring all of theirs back. -/
theorem foldl_slotLawBut {α : Type} {f : State → α → State} {claimant : α → Claimant}
    (hf : ∀ s a E, s.SlotLawBut E → (f s a).SlotLawBut (E.except (claimant a))) (l : List α) {s : State} (h : s.SlotLawBut E) :
    (l.foldl f s).SlotLawBut (fun c => E c ∧ ∀ a ∈ l, c ≠ claimant a) := by
  induction l generalizing s E with
  | nil => exact h.mono fun c hc => ⟨hc, by simp⟩
  | cons a l ih =>
    refine (ih (hf s a E h)).mono fun c hc => ?_
    obtain ⟨⟨hE, ha⟩, hl⟩ := hc
    exact ⟨hE, List.forall_mem_cons.mpr ⟨ha, hl⟩⟩

theorem eachGate_returns {f : Gate → State → State} (hf : ∀ s g E, s.SlotLawBut E → (f g s).SlotLawBut (E.except (.door g)))
    {s : State} (h : s.SlotLawBut E) : (eachGate f s).SlotLawBut E.exceptDoors :=
  (foldl_slotLawBut hf gates h).mono fun _ ⟨hE, hc⟩ => ⟨hE, fun g => hc g (mem_gates g)⟩

theorem eachLine_returns {f : LineNo → State → State}
    (hf : ∀ s n E, s.SlotLawBut E → (f n s).SlotLawBut (E.except (.line n)))
    {s : State} (h : s.SlotLawBut E) : (eachLine f s).SlotLawBut E.exceptLines :=
  (foldl_slotLawBut hf lineNos h).mono fun _ ⟨hE, hc⟩ => ⟨hE, fun n => hc n (mem_lineNos n)⟩

end

end Sys2Proof.Machine

/-! ### The door channels keep the law of the hit slot (R127–R150) -/

namespace Sys2Proof.Machine

section
variable {s : State} {E : Exempt} (h : s.SlotLawBut E) (g : Gate)
include h

theorem State.SlotLawBut.doorNotice_latch (c : DoorCause) (b : Bool) (v : Nat) (f : Latched → Latched) :
    ((s.doorNoticeAt g c b v).latch f).SlotLawBut E :=
  h.of_slotParts ((State.latch_slotParts _ _).trans (s.doorNoticeAt_slotParts g c b v))

/-! #### Beginning a cycle, IDLE and CLOSING (R130, R133, R145) -/

theorem State.SlotLawBut.beginPunch : (s.beginPunch g).SlotLawBut E := by
  unfold State.beginPunch
  split
  · exact h
  · exact ((h.setDoor_leaves (by simp)).of_except).claimSlot _

theorem State.SlotLawBut.beginCycle : (s.beginCycle g).SlotLawBut E := by
  unfold State.beginCycle
  dsimp only
  split
  · exact h
  · split
    · split
      · exact ((h.setDoor_leaves (by simp)).of_except).claimSlot _
      · exact (h.setDoor_sameState).beginPunch g
    · exact h.beginPunch g

theorem State.SlotLawBut.toIdle : (s.toIdle g).SlotLawBut (E.except (.door g)) :=
  (h.setDoor_leaves (by simp)).beginCycle g

theorem State.SlotLawBut.toClosing : (s.toClosing g).SlotLawBut (E.except (.door g)) :=
  h.setDoor_leaves (by simp [Door.startHeld_eq])

theorem State.SlotLawBut.toClosingOrIdle : (s.toClosingOrIdle g).SlotLawBut (E.except (.door g)) := by
  unfold State.toClosingOrIdle
  split
  · exact h.toClosing g
  · exact h.toIdle g

/-! #### The end of a hit (R133, R134, R139) -/

theorem State.SlotLawBut.enterHold : (s.enterHold g).SlotLawBut (E.except (.door g)) := h.setDoor_leaves (by simp)

theorem State.SlotLawBut.enterFree : (s.enterFree g).SlotLawBut (E.except (.door g)) :=
  (h.setDoor_leaves (by simp)).of_slotParts (State.reportAll_slotParts _ g _)

theorem State.SlotLawBut.afterHit : (s.afterHit g).SlotLawBut (E.except (.door g)) := by
  unfold State.afterHit
  split
  · exact h.enterHold g
  · exact h.enterFree g

theorem State.SlotLawBut.latchNoMove (b : Bool) : (s.latchNoMove g b).SlotLawBut E :=
  (h.setDoor_sameState).of_slotParts (State.doorNoticeAt_slotParts _ _ _ _ _)

theorem State.SlotLawBut.markNoMove : (s.markNoMove g).SlotLawBut E := h.of_slotParts (s.markNoMove_slotParts g)

theorem State.SlotLawBut.reportServed (o : PassageReport) : (s.reportServed g o).SlotLawBut E :=
  h.of_slotParts (s.reportServed_slotParts g o)

theorem State.SlotLawBut.reportAll (o : PassageReport) : (s.reportAll g o).SlotLawBut E :=
  h.of_slotParts (s.reportAll_slotParts g o)

omit h in
@[simp] theorem Door.writeMeasures_state (d : Door) : d.writeMeasures.state = d.state := by
  unfold Door.writeMeasures
  split <;> rfl

/-- A hit ends with its door out of its hit phase, after the slot is released: between the two the door is left out of the law. -/
theorem State.SlotLawBut.endHit : (s.endHit g).SlotLawBut E := by
  have hreleased : (s.releaseSlot (.door g)).SlotLawBut (E.also (.door g)) := (h.also _).releaseSlot fun _ => .inl rfl
  unfold State.endHit
  lift_lets
  extract_lets u d notReached flags v noted latched last
  have hv : v.SlotLawBut (E.also (.door g)) := hreleased.setDoor_sameState (by split <;> simp [d, u])
  have hlatched : latched.SlotLawBut (E.also (.door g)) := hv.latchNoMove g _
  have hnoted : noted.SlotLawBut (E.also (.door g)) := by
    unfold noted
    split
    · exact hv
    · exact hlatched.markNoMove g
  refine (State.SlotLawBut.of_also_except (c := .door g) ?_).of_except
  split
  · exact (hnoted.reportServed g _).toClosing g
  · split
    · exact hv.afterHit g
    · split
      · exact (hlatched.markNoMove g).afterHit g
      · exact hlatched.afterHit g
      · exact (hlatched.reportServed g _).toIdle g
      · exact State.SlotLawBut.toIdle hlatched.setDoor_sameState g

omit h in
theorem State.not_usesSlot_setDoor {d : Door} (hd : d.state ≠ .hit) : ¬ (s.setDoor g d).usesSlot (.door g) := by
  simpa [State.usesSlot] using hd

/-- A door written out of its hit phase gives the slot back. -/
theorem State.SlotLawBut.setDoor_release {d : Door} (hd : d.state ≠ .hit) :
    ((s.setDoor g d).releaseSlot (.door g)).SlotLawBut (E.except (.door g)) :=
  (h.setDoor_leaves hd).releaseSlot fun hu => absurd hu (State.not_usesSlot_setDoor g hd)

theorem State.SlotLawBut.tripOvercurrent : (s.tripOvercurrent g).SlotLawBut E := by
  unfold State.tripOvercurrent
  dsimp only
  refine State.SlotLawBut.doorNotice_latch
    (State.SlotLawBut.reportAll ((h.setDoor_release g ?_).of_except) g _) g _ _ _ _
  simp [Door.heldIfOpen_eq]

/-! #### Free passage (R142–R145) -/

theorem State.SlotLawBut.leaveFree : (s.leaveFree g).SlotLawBut E :=
  ((h.setDoor_sameState).toClosingOrIdle g).of_except

theorem State.SlotLawBut.freeEndRequest : (s.freeEndRequest g).SlotLawBut E := by
  unfold State.freeEndRequest
  dsimp only
  split
  · exact h.setDoor_sameState
  · split
    · next hclaim _ =>
      have hout : ({ s.door g with freeEnd := none } : Door).state ≠ .hit := by simp [hclaim]
      exact ((((h.setDoor_leaves hout).withdrawClaim
        fun hu => absurd hu (State.not_usesSlot_setDoor g hout)).toIdle g).of_except.of_except)
    · exact ((h.setDoor_release g (by simp)).toIdle g).of_except.of_except
    · exact h.leaveFree g
    · exact h

theorem State.SlotLawBut.takeFreeRequest (e : Nat) : (s.takeFreeRequest g e).SlotLawBut E := by
  unfold State.takeFreeRequest
  dsimp only
  split
  · exact (h.setDoor_sameState).beginCycle g
  · exact h.setDoor_sameState
  · exact h.setDoor_sameState
  · exact h.setDoor_sameState
  · exact h.setDoor_sameState
  · exact h.setDoor_sameState
  · exact h.setDoor_sameState
  · exact h.setDoor_sameState
  · exact h

theorem State.SlotLawBut.doorBoundary (m : Nat) : (s.doorBoundary m g).SlotLawBut E := by
  unfold State.doorBoundary
  split
  · exact h
  · split
    · exact h.freeEndRequest g
    · exact h

/-! #### The contact (R129, R137, R138) -/

theorem State.SlotLawBut.forced : (s.forced g).SlotLawBut E :=
  State.SlotLawBut.doorNotice_latch (h.setDoor_sameState (by simp [Door.startHeld_eq])) g _ _ _ _

theorem State.SlotLawBut.contactOpens : (s.contactOpens g).SlotLawBut E := by
  have hopen : (s.setDoor g ((s.door g).openContact s.time.osc)).SlotLawBut E := h.setDoor_sameState (by simp [Door.openContact_eq])
  unfold State.contactOpens
  dsimp only
  split
  · exact ((hopen.forced g).toClosing g).of_except
  · exact hopen.forced g
  · exact hopen.setDoor_sameState
  · exact hopen
  · exact ((hopen.reportServed g _).toClosing g).of_except
  · exact hopen
  · exact hopen
  · exact hopen.forced g

theorem State.SlotLawBut.contactCloses : (s.contactCloses g).SlotLawBut E := by
  unfold State.contactCloses
  dsimp only
  split
  · exact h.setDoor_sameState
  · split
    · exact (State.SlotLawBut.toIdle (h.setDoor_sameState) g).of_except
    · exact h.setDoor_sameState

theorem State.SlotLawBut.contactStands (level : Contact) : (s.contactStands g level).SlotLawBut E := by
  unfold State.contactStands
  dsimp only
  split
  · have hopen : (s.setDoor g (({ s.door g with settling := false } : Door).openContact s.time.osc)).SlotLawBut E :=
      h.setDoor_sameState (by simp [Door.openContact_eq])
    split
    · exact (hopen.toClosing g).of_except
    · exact hopen
  · split
    · exact State.SlotLawBut.contactCloses (h.setDoor_sameState) g
    · exact h.setDoor_sameState

theorem State.SlotLawBut.contactActs (e : ContactEvent) : (s.contactActs g e).SlotLawBut E := by
  cases e with
  | taken level => exact h.contactStands g level
  | opening => exact h.contactOpens g
  | closing => exact h.contactCloses g

omit h in
@[simp] theorem Door.feedContact_state (d : Door) (xs : List Contact) : (d.feedContact xs).1.state = d.state := by
  induction xs generalizing d with
  | nil => rfl
  | cons x xs ih =>
    have hx : (d.contactSample x).state = d.state := by unfold Door.contactSample; split <;> rfl
    rw [Door.feedContact]
    split
    · exact hx
    · rw [ih, hx]

/-! #### Coil samples (R131–R133, R136, R139) -/

omit h in
theorem Door.hitSample_state (d : Door) (x : CoilSample) : (d.hitSample x).1.state = d.state := by
  unfold Door.hitSample
  dsimp only
  split
  · split <;> rfl
  · split <;> rfl

omit h in
theorem Door.holdSample_state (d : Door) (x : CoilSample) : (d.holdSample x).1.state = d.state := by
  unfold Door.holdSample
  dsimp only
  split
  · split <;> rfl
  · split <;> rfl

omit h in
theorem Door.coilSample_state (d : Door) (x : CoilSample) : (d.coilSample x).1.state = d.state := by
  unfold Door.coilSample
  split
  · exact d.hitSample_state x
  · exact d.holdSample_state x
  · exact d.holdSample_state x
  all_goals rfl

omit h in
@[simp] theorem Door.feed_state (d : Door) (xs : List CoilSample) : (d.feed xs).1.state = d.state := by
  induction xs generalizing d with
  | nil => rfl
  | cons x xs ih =>
    rw [Door.feed]
    split
    · exact d.coilSample_state x
    · rw [ih, d.coilSample_state x]

theorem State.SlotLawBut.closeWindow : (s.closeWindow g).SlotLawBut E := by
  unfold State.closeWindow
  dsimp only
  split
  · have hhot (r : Nat) : (((s.setDoor g { s.door g with
        lastResistance := r, winCount := 0, winMillivolts := 0, winCurrent := 0,
        flags := { (s.door g).flags with coilHot := true } }).doorNoticeAt g .coilHot false r).latch
        Latched.setDoorFault).SlotLawBut E :=
      State.SlotLawBut.doorNotice_latch h.setDoor_sameState g _ _ _ _
    split
    · exact (hhot _).leaveFree g
    · exact hhot _
  · exact h.setDoor_sameState

theorem State.SlotLawBut.coilEvents (e : CoilEvents) : (s.coilEvents g e).SlotLawBut E := by
  unfold State.coilEvents
  split
  · exact h.tripOvercurrent g
  · split
    · exact h.closeWindow g
    · have hvalley : (if e.valley = true then s.setDoor g (s.door g).writeMeasures else s).SlotLawBut E := by
        split
        · exact h.setDoor_sameState (by simp)
        · exact h
      dsimp only
      split
      · exact hvalley.endHit g
      · exact hvalley

/-! #### The coil test, REARM DOOR, LOW, STOPPING, the memory fault (R140, R141, R146, R150) -/

theorem State.SlotLawBut.loadTestFails : (s.loadTestFails g).SlotLawBut E := by
  unfold State.loadTestFails
  dsimp only
  split
  · exact h.setDoor_sameState
  · refine State.SlotLawBut.doorNotice_latch
      (State.SlotLawBut.reportAll ((h.setDoor_leaves ?_).of_except) g _) g _ _ _ _
    simp

theorem State.SlotLawBut.loadTestPasses : (s.loadTestPasses g).SlotLawBut E := by
  unfold State.loadTestPasses
  dsimp only
  split
  · exact h
  · split
    · exact h.setDoor_sameState
    · split
      · exact h.setDoor_sameState
      · exact (State.SlotLawBut.toClosingOrIdle (h.setDoor_sameState) g).of_except

theorem State.SlotLawBut.rearm : (s.rearm g).SlotLawBut E := by
  unfold State.rearm
  dsimp only
  split
  · exact h.setDoor_sameState
  · exact (State.SlotLawBut.toClosingOrIdle (h.setDoor_sameState) g).of_except

omit h in
@[simp] theorem State.reportAll_door (o : PassageReport) (k : Gate) : (s.reportAll g o).door k = s.door k := rfl

theorem State.SlotLawBut.without_door (hg : (s.door g).state ≠ .hit) : s.SlotLawBut (E.except (.door g)) :=
  ⟨h.once, h.claimed, fun c hc hu => h.holds c (fun hE => hc ⟨hE, by rintro rfl; exact hg hu⟩) hu⟩

/-- Once LOW has acted on a door it stands out of its hit phase. -/
theorem State.SlotLawBut.doorLow : (s.doorLow g).SlotLawBut (E.except (.door g)) := by
  unfold State.doorLow
  lift_lets
  extract_lets d cleared u
  have hu : u.SlotLawBut E := h.setDoor_sameState.reportAll g _
  have hstate : (u.door g).state = (s.door g).state := by simp [u, cleared, d]
  clear_value u
  split
  · next hd =>
    have hout : ¬ u.usesSlot (.door g) := by simp [State.usesSlot, hstate, d, hd]
    exact (hu.withdrawClaim fun hh => absurd hh hout).toIdle g
  · exact ((((hu.also (.door g)).setDoor_sameState (by simp)).releaseSlot fun _ => .inl rfl).toIdle g).of_also_except
  · exact hu.toClosingOrIdle g
  · exact hu.toClosingOrIdle g
  all_goals
    next hd => exact hu.without_door g (by simp [hstate, d, hd])

theorem State.SlotLawBut.doorStop : (s.doorStop g).SlotLawBut E := (h.freeEndRequest g).setDoor_sameState

/-- Once a memory fault has acted on a door it stands out of its hit phase. -/
theorem State.SlotLawBut.doorFault : (s.doorFault g).SlotLawBut (E.except (.door g)) := by
  unfold State.doorFault
  lift_lets
  extract_lets d u
  have hu : u.SlotLawBut E := h.setDoor_sameState
  have hstate : (u.door g).state = (s.door g).state := by simp [u, d]
  clear_value u
  split
  · exact hu.toClosingOrIdle g
  · exact hu.toClosingOrIdle g
  · exact hu.toClosingOrIdle g
  · exact hu.toClosingOrIdle g
  all_goals
    next hd => exact hu.without_door g (by simp [hstate, d, hd])

end

end Sys2Proof.Machine

/-! ### The bell lines keep the law of the hit slot (R159–R173) -/

namespace Sys2Proof.Machine

section
variable {s : State} {E : Exempt} (h : s.SlotLawBut E) (n : LineNo)
include h

theorem State.SlotLawBut.notice (x : JRecord) : (s.notice x).SlotLawBut E := h.of_slotParts (s.notice_slotParts x)

theorem State.SlotLawBut.bellNoticeAt (c : BellCause) (k e : Option Nat) (v : Nat) : (s.bellNoticeAt c k e v).SlotLawBut E :=
  h.notice _

omit h in
/-- A line that takes its head enters DELAY or IDLE: it keeps its release of the slot, and stands in no claim. -/
theorem Line.takeHead_keeps (l : Line) : l.takeHead.releaseAt = l.releaseAt ∧ l.takeHead.state ≠ .claim := by
  unfold Line.takeHead
  split <;> simp

theorem State.SlotLawBut.appendPattern (p : Pattern) : (s.appendPattern n p).SlotLawBut E := by
  unfold State.appendPattern
  split
  · exact h.bellNoticeAt _ _ _ _
  · unfold Line.append
    dsimp only
    split
    · obtain ⟨hrelease, hclaim⟩ := Line.takeHead_keeps { s.line n with queue := (s.line n).queue ++ [p] }
      exact h.setLine_keeps hrelease fun hc => absurd hc hclaim
    · exact h.setLine_sameClaim

/-- A line that has left every use of the slot withdraws its claim, or gives the slot back. -/
theorem State.SlotLawBut.setLine_withdraw {l : Line} (hr : l.releaseAt = none) (hc : l.state ≠ .claim) :
    ((s.setLine n l).withdrawClaim (.line n)).SlotLawBut (E.except (.line n)) := by
  refine (h.setLine_quiet hr fun hh => absurd hh hc).withdrawClaim fun hu => ?_
  simp only [State.usesSlot, State.line_setLine, if_pos, hr] at hu
  simp_all

/-- Once LOW has acted on a line it uses the slot no more (R171). -/
theorem State.SlotLawBut.lineLow : (s.lineLow n).SlotLawBut (E.except (.line n)) := by
  unfold State.lineLow
  have hoff : ((s.setLine n (s.line n).emptied).withdrawClaim (.line n)).SlotLawBut (E.except (.line n)) :=
    h.setLine_withdraw n rfl (by simp [Line.emptied])
  dsimp only
  split
  · exact hoff
  · exact hoff.bellNoticeAt _ _ _ _

theorem State.SlotLawBut.cutLine : (s.cutLine n).SlotLawBut E := by
  unfold State.cutLine
  dsimp only
  split
  · exact h
  · exact h.setLine_keeps rfl (by simp)
  · next hclaim => exact (h.setLine_withdraw n (by exact h.claimed n hclaim) (by simp)).of_except
  · exact h.setLine_sameClaim
  · exact h.setLine_keeps rfl (by simp)
  · exact h.setLine_sameClaim

theorem State.SlotLawBut.stopLine : (s.setLine n (s.line n).stop).SlotLawBut E := by
  unfold Line.stop
  split
  · exact h.setLine_keeps rfl (by simp)
  all_goals exact h.setLine_sameClaim

theorem State.SlotLawBut.endPulse : (s.setLine n ((s.line n).endPulse s.time.osc)).SlotLawBut E := by
  unfold Line.endPulse
  split
  · exact h.setLine_keeps rfl (by simp)
  · split <;> exact h.setLine_keeps rfl (by simp)

theorem State.SlotLawBut.endSettle : (s.setLine n (s.line n).endSettle).SlotLawBut E := by
  obtain ⟨hrelease, hclaim⟩ := Line.takeHead_keeps { s.line n with queue := (s.line n).queue.drop 1 }
  exact h.setLine_keeps hrelease fun hc => absurd hc hclaim

omit h in
/-- A pulse starts with the grant held, and takes the line from its claim into its hit phase (R166). -/
theorem State.SlotLawBut.startPulse {s : State} (h : s.SlotLawBut .nobody) (hc : (s.line n).state = .claim)
    (hg : (s.line n).granted = true) : (s.setLine n ((s.line n).startPulse s.time.osc)).SlotLawBut .nobody :=
  h.setLine_holder (h.holds (.line n) id (.inr ⟨hc, hg⟩)) (by simp [Line.startPulse])

/-- A line at its release is in its hit phase, so it stands in no claim (R166). -/
theorem State.SlotLawBut.releaseLine {t : Nat} (ht : (s.line n).releaseAt = some t) :
    ((s.setLine n { s.line n with releaseAt := none }).releaseSlot (.line n)).SlotLawBut E := by
  have hclaim : (s.line n).state ≠ .claim := fun hc => by simpa [ht] using h.claimed n hc
  refine State.SlotLawBut.releaseSlot
    ((h.setLine_quiet (by rfl) (by exact fun hc => absurd hc hclaim)).of_except) fun hu => ?_
  simp [State.usesSlot, hclaim] at hu

/-- A line claims with its release behind it, and with granted clear (R165–R167). -/
theorem State.SlotLawBut.placeBellClaim (hn : s.claims n = true) : (s.placeBellClaim n).SlotLawBut E := by
  have hrelease : (s.line n).releaseAt = none := by
    simp only [State.claims, Bool.and_eq_true, Option.isNone_iff_eq_none] at hn
    exact hn.1.2
  unfold State.placeBellClaim
  split
  · exact ((h.lineLow n).of_except).of_slotParts (State.stopCheck_slotParts _)
  · exact ((h.setLine_quiet (by exact hrelease) (by exact fun _ => rfl)).of_except).claimSlot _

/-! ### Free sends, selections and minute boundaries (R11, R145, R162–R164) -/

theorem State.SlotLawBut.sendFree (g : Gate) (m e : Nat) : (s.sendFree g m e).SlotLawBut E := by
  unfold State.sendFree
  split
  · exact h.bellNoticeAt _ _ _ _
  · exact h.takeFreeRequest g m

theorem State.SlotLawBut.freePart (g : Gate) (f : FreeSend) : (s.freePart g f).SlotLawBut E := by
  unfold State.freePart
  split
  · exact h.sendFree g _ _
  · exact h.of_slotParts (s.setFreeSend_slotParts g _)

theorem State.SlotLawBut.takeEntry (i : Nat) (e : BellEntry) (m : Nat) : (s.takeEntry i e m).SlotLawBut E := by
  unfold State.takeEntry
  split
  · exact h.bellNoticeAt _ _ _ _
  · lift_lets
    extract_lets p u
    have hu : u.SlotLawBut E := eachLine_slotLawBut (fun n s hs => by
      split
      · exact hs.appendPattern n p
      · exact hs) h
    split
    · exact hu
    · refine eachGate_slotLawBut (fun g s hs => ?_) hu
      split
      · exact hs.freePart g _
      · exact hs

theorem State.SlotLawBut.selectFrom (t : Table) (minuteOfDay dow m fuel i : Nat) :
    (State.selectFrom t minuteOfDay dow m fuel i s).SlotLawBut E := by
  induction fuel generalizing i s with
  | zero => exact h
  | succ fuel ih =>
    rw [State.selectFrom]
    dsimp only
    split
    · refine ih ?_ _
      split
      · exact h.bellNoticeAt _ _ _ _
      · split
        · exact h.takeEntry _ _ _
        · exact h
    · exact h

theorem State.SlotLawBut.select (minuteOfDay dow m : Nat) : (s.select minuteOfDay dow m).SlotLawBut E := by
  unfold State.select
  split
  · exact h
  · exact h.selectFrom _ _ _ _ _ _

theorem State.SlotLawBut.bellBoundary (minuteOfDay dow m : Nat) : (s.bellBoundary minuteOfDay dow m).SlotLawBut E := by
  have hswitch : s.switchBellTable.SlotLawBut E := h.of_slotParts s.switchBellTable_slotParts
  unfold State.bellBoundary
  dsimp only
  split
  · split
    · exact hswitch.select _ _ _
    · split
      · exact hswitch
      · exact (hswitch.of_slotParts (State.withBells_slotParts _)).select _ _ _
  · exact hswitch

theorem State.SlotLawBut.raiseBoundary (m : Nat) : (s.raiseBoundary m).SlotLawBut E := by
  have hbell : ((s.withTime { s.time with lm := some m }).bellBoundary (m % 1440)
      (({ s.time with lm := some m } : TimeBase).dowOfMinute m) m).SlotLawBut E :=
    State.SlotLawBut.bellBoundary (h.of_slotParts (s.withTime_slotParts _)) _ _ _
  exact eachGate_slotLawBut (fun g s hs => hs.doorBoundary g m) (hbell.of_slotParts (State.sweepBoundary_slotParts _))

theorem State.SlotLawBut.minuteRoll : s.minuteRoll.SlotLawBut E := by
  have hroll : (s.withTime s.time.rollMinute).SlotLawBut E := h.of_slotParts (s.withTime_slotParts _)
  unfold State.minuteRoll
  dsimp only
  split
  · exact hroll
  · refine State.SlotLawBut.of_slotParts ?_ (State.stepSilence_slotParts _)
    split
    · exact hroll.raiseBoundary _
    · exact hroll

theorem State.SlotLawBut.applyMark (x : ClockMark) (resync : Bool) : (s.applyMark x resync).SlotLawBut E := by
  have hraised : ((catchUp s.time.lm (s.time.impliedMinute x)).foldl State.raiseBoundary
      (s.withTime (s.time.applyMark x (s.time.impliedMinute x)))).SlotLawBut E :=
    List.foldlRecOn (motive := fun s : State => s.SlotLawBut E) _ _ (h.of_slotParts (s.withTime_slotParts _))
      fun _ hs m _ => hs.raiseBoundary m
  unfold State.applyMark
  dsimp only
  split
  · exact hraised
  · exact hraised.notice _

theorem State.SlotLawBut.takeMark (hi lo dow check : Byte) : (s.takeMark hi lo dow check).SlotLawBut E := by
  unfold State.takeMark
  split
  · exact h.of_slotParts (s.withTime_slotParts _)
  · split
    · exact h
    · exact h.of_slotParts (s.withTime_slotParts _)
    · exact h.applyMark _ _

/-! ### Acceptance of a presentation (R77, R80, R87) -/

theorem State.SlotLawBut.accept (p : Presentation) (ref : WorkerRef) (d : Direction) (soft : Bool) :
    (s.accept p ref d soft).SlotLawBut E := by
  unfold State.accept
  dsimp only
  refine State.SlotLawBut.of_slotParts ?_ (State.indicate_slotParts _ _ _ _)
  split
  · split
    · exact h.of_slotParts (by simp)
    · exact h.of_slotParts (by simp)
  · exact State.SlotLawBut.beginCycle (h.of_slotParts (by simp)) _

theorem State.SlotLawBut.judgeWithRoom (p : Presentation) : (s.judgeWithRoom p).SlotLawBut E := by
  unfold State.judgeWithRoom
  split
  · exact h.of_slotParts (by simp)
  · dsimp only
    split
    · exact h.of_slotParts (by simp)
    · exact h.of_slotParts (by simp)
    · exact h.of_slotParts (by simp)
    · exact State.SlotLawBut.accept (h.of_slotParts (by simp)) _ _ _ _

theorem State.SlotLawBut.judge (p : Presentation) : (s.judge p).SlotLawBut E := by
  unfold State.judge
  dsimp only
  split
  · split
    · exact State.SlotLawBut.judgeWithRoom (h.of_slotParts s.requestPresentation_slotParts) p
    · exact h.of_slotParts (by simp)
  · exact h.of_slotParts (by simp)

/-! ### The run state: a start, the entry to STOPPING, a memory fault (R128, R150, R157, R172, R189, R193) -/

omit h in
theorem Door.takeParams_state (d : Door) (e : GateEntry) : (d.takeParams e).state = .hit → d.state = .hit := by
  rw [Door.takeParams_eq]
  unfold Door.taken
  dsimp only
  split
  · simp
  · split
    · dsimp only; split <;> simp_all
    · split <;> exact id

/-- A channel that ceases to be equipped is IDLE, so it can leave the slot and its list (R128). -/
theorem State.SlotLawBut.startGate (g : Gate) (e : GateEntry) : (s.startGate g e).SlotLawBut E := by
  have htaken : (s.setDoor g ((s.door g).takeParams e)).SlotLawBut E := h.setDoor_keeps (Door.takeParams_state _ e)
  unfold State.startGate
  dsimp only
  split
  · exact htaken.beginCycle g
  · next he =>
    have hout : ((s.door g).takeParams e).state ≠ .hit := by simp [Door.takeParams, he, Door.unequip]
    exact htaken.withdrawClaim fun hu => absurd hu (State.not_usesSlot_setDoor g hout)

theorem State.SlotLawBut.startGates (a : Anchor) : (s.startGates a).SlotLawBut E :=
  State.SlotLawBut.of_slotParts (eachGate_slotLawBut (fun g _ hs => hs.startGate g _) (h.of_slotParts (s.withControl_slotParts _)))
    (State.formMap_slotParts _)

theorem State.SlotLawBut.startBells (a : Anchor) : (s.startBells a).SlotLawBut E :=
  eachLine_slotLawBut (fun _ _ hs => hs.setLine_sameClaim) (h.of_slotParts s.withBells_slotParts)

theorem State.SlotLawBut.enterRunning (a : Anchor) : (s.enterRunning a).SlotLawBut E := by
  unfold State.enterRunning
  lift_lets
  extract_lets counted _ tabled journalled _ placed started published
  have hplaced : placed.SlotLawBut E := h.of_slotParts (by simp [placed, journalled, tabled, counted])
  exact ((hplaced.startGates a).startBells a).of_slotParts (by simp [published, started])

theorem State.SlotLawBut.endStart : s.endStart.SlotLawBut E := by
  unfold State.endStart
  split
  · split
    · exact h.of_slotParts (s.failStart_slotParts _ _)
    · exact h.enterRunning _
  · exact h.of_slotParts (s.withControl_slotParts _)

theorem State.SlotLawBut.stopBells : s.stopBells.SlotLawBut E :=
  eachLine_slotLawBut (fun n _ hs => hs.stopLine n) (h.of_slotParts s.withBells_slotParts)

theorem State.SlotLawBut.enterStopping : s.enterStopping.SlotLawBut E := by
  unfold State.enterStopping
  lift_lets
  extract_lets _ stopping _ idle stopped
  have hdoors : (eachGate (fun g s => s.doorStop g) idle).SlotLawBut E :=
    eachGate_slotLawBut (fun g s hs => hs.doorStop g) (h.of_slotParts (by simp [idle, stopping]))
  exact hdoors.stopBells.of_slotParts (by simp [stopped])

theorem State.SlotLawBut.writeControl (run : Bool) : (s.writeControl run).SlotLawBut E := by
  have hrequest : (s.withControl { s.control with runRequest := run }).SlotLawBut E := h.of_slotParts (s.withControl_slotParts _)
  unfold State.writeControl
  dsimp only
  split
  · split
    · exact hrequest.of_slotParts (State.beginStart_slotParts _)
    · exact hrequest
  · split
    · exact hrequest.of_slotParts (State.beginStart_slotParts _)
    · exact hrequest
  · exact hrequest
  · exact hrequest
  · split
    · exact hrequest
    · exact h.enterStopping

/-- Lines that a memory fault has emptied use no slot (R172). -/
theorem State.SlotLawBut.faultedBells : (s.withBells s.bells.faulted).SlotLawBut E.exceptLines := by
  have hline (n : LineNo) : (s.withBells s.bells.faulted).line n = (s.line n).emptied := by
    simp [State.line, State.withBells, Bells.faulted]
  refine ⟨h.once, fun n hn => ?_, fun c hc hu => ?_⟩
  · rw [hline]; rfl
  · cases c with
    | door g => exact h.holds _ (fun hE => hc ⟨hE, by simp⟩) hu
    | line n => simp [State.usesSlot, hline, Line.emptied] at hu

/-- With every door and every line back under the law no one is left out. -/
theorem State.SlotLawBut.of_all_back (hdoor : ∀ g, ¬ E (.door g)) (hline : ∀ n, ¬ E (.line n)) : s.SlotLawBut .nobody :=
  h.mono fun c hc => match c with
    | .door g => hdoor g hc
    | .line n => hline n hc

theorem State.SlotLawBut.takeFault : s.takeFault.SlotLawBut .nobody := by
  unfold State.takeFault
  lift_lets
  extract_lets _ faulted dropped emptied
  have hempty : dropped.emptyArbiter.SlotLawBut .all :=
    State.SlotLawBut.emptyArbiter (h.of_slotParts (by simp [dropped, faulted]))
  have hlines : emptied.SlotLawBut (Exempt.exceptLines .all) :=
    hempty.faultedBells.of_slotParts (State.withJournal_slotParts _ _)
  have hdoors := eachGate_returns (f := fun g s => s.doorFault g) (fun s g E hs => hs.doorFault g) hlines
  exact (hdoors.of_all_back (fun g ⟨_, hg⟩ => hg g rfl) (fun n ⟨⟨_, hn⟩, _⟩ => hn n rfl)).of_slotParts
    (State.withOrders_slotParts _ _)

/-! ### The coil supply (R151–R153, R171) -/

theorem State.SlotLawBut.takeLow : s.takeLow.SlotLawBut .nobody := by
  unfold State.takeLow
  lift_lets
  extract_lets doors lines _
  have hdoors : doors.SlotLawBut (Exempt.exceptDoors .all) :=
    eachGate_returns (fun s g E hs => hs.doorLow g) h.emptyArbiter
  have hlines : lines.SlotLawBut .nobody := (eachLine_returns (fun s n E hs => hs.lineLow n) hdoors).of_all_back
    (fun g ⟨⟨_, hg⟩, _⟩ => hg g rfl) (fun n ⟨_, hn⟩ => hn n rfl)
  clear_value lines
  exact (hlines.of_slotParts lines.withBells_slotParts).of_slotParts (State.stopCheck_slotParts _)

theorem State.SlotLawBut.takeNormal : s.takeNormal.SlotLawBut E := eachGate_slotLawBut (fun g _ hs => hs.beginCycle g) h

/-! ### The orders of the doors and the bells (R141, R149, R168–R170, R198) -/

theorem State.SlotLawBut.answer (outs : List Word) (r : OrderResult) : (s.answer outs r).SlotLawBut E :=
  h.of_slotParts (s.answer_slotParts outs r)

theorem State.SlotLawBut.applyGate (base : Nat) (k : Gate) (e : GateEntry) (minOn : Nat) :
    (s.applyGate base k e minOn).SlotLawBut E := by
  unfold State.applyGate
  lift_lets
  extract_lets minimum written mapped begun
  have hwritten : written.SlotLawBut E := h.of_slotParts (by simp [written])
  have hmapped : mapped.SlotLawBut E :=
    State.SlotLawBut.of_slotParts (hwritten.setDoor_keeps (Door.takeParams_state _ e)) (State.formMap_slotParts _)
  exact ((hmapped.setLine_sameClaim).beginCycle k).answer _ _

theorem State.SlotLawBut.setGate (i : InHand) : (s.setGate i).SlotLawBut E := by
  unfold State.setGate
  dsimp only
  split
  · exact h.answer _ _
  · split
    · split
      · exact h.answer _ _
      · split
        · exact h.answer _ _
        · exact h.applyGate _ _ _ _
    · exact h.answer _ _

theorem State.SlotLawBut.rearmOrder (i : InHand) : (s.rearmOrder i).SlotLawBut E := by
  unfold State.rearmOrder
  split
  · refine State.SlotLawBut.answer ?_ _ _
    split
    · exact h.rearm _
    · exact h
  · exact h.answer _ _

theorem State.SlotLawBut.requestFree (mask e : Nat) : (s.requestFree mask e).1.SlotLawBut E := by
  refine List.foldlRecOn (motive := fun acc : State × Nat => acc.1.SlotLawBut E) gates _ h fun acc hacc g _ => ?_
  split
  · split
    · exact hacc
    · exact hacc.takeFreeRequest g e
  · exact hacc

theorem State.SlotLawBut.endFree (mask : Nat) : (s.endFree mask).SlotLawBut E := by
  refine eachGate_slotLawBut (fun g s hs => ?_) h
  split
  · exact State.SlotLawBut.freeEndRequest (hs.of_slotParts (s.setFreeSend_slotParts g none)) g
  · exact hs

theorem State.SlotLawBut.freePassage (i : InHand) : (s.freePassage i).SlotLawBut E := by
  unfold State.freePassage
  dsimp only
  split
  · exact h.answer _ _
  · split
    · exact (h.endFree _).answer _ _
    · split
      · exact h.answer _ _
      · exact (h.requestFree _ _).answer _ _

theorem State.SlotLawBut.ringLines (mask : Nat) (p : Pattern) : (s.ringLines mask p).1.SlotLawBut E := by
  refine List.foldlRecOn (motive := fun acc : State × Nat => acc.1.SlotLawBut E) lineNos _ h fun acc hacc k _ => ?_
  split
  · split
    · exact hacc.bellNoticeAt _ _ _ _
    · exact hacc.appendPattern k p
  · exact hacc

theorem State.SlotLawBut.ring (i : InHand) : (s.ring i).SlotLawBut E := by
  unfold State.ring
  split
  · split
    · exact (h.ringLines _ _).answer _ _
    · exact h.answer _ _
  · exact h.of_slotParts (s.turnAway_slotParts _ _)

theorem State.SlotLawBut.silenceFor (v : Nat) : (s.silenceFor v).SlotLawBut E := by
  unfold State.silenceFor
  split
  · exact h.of_slotParts s.withBells_slotParts
  · exact eachLine_slotLawBut (fun n s hs => hs.cutLine n) (h.of_slotParts s.withBells_slotParts)

theorem State.SlotLawBut.silence (i : InHand) : (s.silence i).SlotLawBut E := by
  unfold State.silence
  dsimp only
  split
  · exact h.answer _ _
  · split
    · exact h.answer _ _
    · refine State.SlotLawBut.answer ?_ _ _
      split
      · exact h.silenceFor _
      · exact h

theorem State.SlotLawBut.clearStatus : s.clearStatus.SlotLawBut E := by
  unfold State.clearStatus
  lift_lets
  extract_lets flags counts _ _ rest
  have hflags : flags.SlotLawBut E := eachGate_slotLawBut (fun g s hs => hs.setDoor_sameState) h
  have hcounts : counts.SlotLawBut E := hflags.of_slotParts (eachPosition_slotParts _ fun p s => s.setReader_slotParts p _)
  exact hcounts.of_slotParts (by simp [rest])

end

end Sys2Proof.Machine

/-! ### Every command keeps the law of the hit slot (R154–R158) -/

namespace Sys2Proof.Machine

/-- What a command answers from `s` keeps the law of the hit slot. -/
def KeepsSlotLaw (s : State) (r : Result) : Prop := s.SlotLawBut .nobody → ∀ t, r = .next t → t.SlotLawBut .nobody

section
variable (s : State)

theorem keepsSlotLaw_next {u : State} (hu : s.SlotLawBut .nobody → u.SlotLawBut .nobody) : KeepsSlotLaw s (.next u) := by
  rintro h t ⟨⟩
  exact hu h

/-- A command whose event cannot occur leaves the state as it is (log entry 10). -/
theorem keepsSlotLaw_stand : KeepsSlotLaw s (.next s) := keepsSlotLaw_next s id

/-- The end of an event leaves the law as the event's own operations left it. -/
theorem keepsSlotLaw_finish {u : State} (hu : s.SlotLawBut .nobody → u.SlotLawBut .nobody) : KeepsSlotLaw s (finish s u) :=
  keepsSlotLaw_next s fun h => (hu h).of_slotParts (settled_slotParts s u)

/-- An event that writes no arbiter, no door and no line keeps the law. -/
theorem keepsSlotLaw_apart {u : State} (hp : u.slotParts = s.slotParts) : KeepsSlotLaw s (finish s u) :=
  keepsSlotLaw_finish s fun h => h.of_slotParts hp


/-! #### Power-up, control and the registers (R187–R200) -/

/-- At power-up the slot is free, no door is in its hit phase and every line is IDLE. -/
theorem State.reset_slotLawBut (E : Exempt) : State.reset.SlotLawBut E := by
  have hdoor (g : Gate) : State.reset.door g = Door.reset := by simp [State.door, State.reset]
  have hline (n : LineNo) : State.reset.line n = Line.reset := by simp [State.line, State.reset, Bells.reset]
  refine ⟨⟨List.nodup_nil, nofun⟩, fun n _ => by rw [hline]; rfl, fun c _ hc => ?_⟩
  cases c with
  | door g => simp [State.usesSlot, hdoor, Door.reset] at hc
  | line n => simp [State.usesSlot, hline, Line.reset] at hc

theorem execPowerUp_keepsSlotLaw (v : Nat) : KeepsSlotLaw s (execPowerUp v s) :=
  keepsSlotLaw_next s fun _ => (State.reset_slotLawBut .nobody).of_slotParts rfl

theorem execHostRestart_keepsSlotLaw : KeepsSlotLaw s (execHostRestart s) :=
  keepsSlotLaw_apart s (s.restarted_slotParts)

theorem execControlWrite_keepsSlotLaw (w : Word) : KeepsSlotLaw s (execControlWrite w s) :=
  keepsSlotLaw_finish s fun h => h.writeControl _

theorem execStartChecksDone_keepsSlotLaw : KeepsSlotLaw s (execStartChecksDone s) := by
  unfold execStartChecksDone
  split
  · exact keepsSlotLaw_finish s fun h => h.endStart
  · exact keepsSlotLaw_stand s

theorem execMemoryFault_keepsSlotLaw (cut : List (Nat × Word)) : KeepsSlotLaw s (execMemoryFault cut s) := by
  unfold execMemoryFault
  split
  · exact keepsSlotLaw_stand s
  · split
    · exact keepsSlotLaw_finish s fun h => State.SlotLawBut.takeFault (h.of_slotParts (s.writeCut_slotParts cut))
    · rintro - t ⟨⟩

theorem execAttentionWrite_keepsSlotLaw (w : Word) : KeepsSlotLaw s (execAttentionWrite w s) :=
  keepsSlotLaw_next s fun h => h.of_slotParts (s.latch_slotParts _)

theorem execAttentionEnableWrite_keepsSlotLaw (w : Word) : KeepsSlotLaw s (execAttentionEnableWrite w s) :=
  keepsSlotLaw_next s fun h => h.of_slotParts (s.withControl_slotParts _)

theorem execStretchTimerExpiry_keepsSlotLaw : KeepsSlotLaw s (execStretchTimerExpiry s) := by
  unfold execStretchTimerExpiry
  split
  · exact keepsSlotLaw_stand s
  · split
    · exact keepsSlotLaw_apart s (s.withControl_slotParts _)
    · exact keepsSlotLaw_stand s

/-! #### The time base and the reader links (R1–R31) -/

theorem execTick_keepsSlotLaw : KeepsSlotLaw s (execTick s) := by
  unfold execTick
  split
  · exact keepsSlotLaw_finish s fun h => h.minuteRoll
  · exact keepsSlotLaw_apart s (s.withTime_slotParts _)

theorem execLocalMinuteRoll_keepsSlotLaw : KeepsSlotLaw s (execLocalMinuteRoll s) := by
  unfold execLocalMinuteRoll
  split
  · exact keepsSlotLaw_finish s fun h => h.minuteRoll
  · exact keepsSlotLaw_stand s

theorem execMark_keepsSlotLaw (hi lo dow check : Byte) : KeepsSlotLaw s (execMark hi lo dow check s) :=
  keepsSlotLaw_finish s fun h => h.takeMark hi lo dow check

theorem execPoll_keepsSlotLaw (k : LinkNo) : KeepsSlotLaw s (execPoll k s) := by
  unfold execPoll
  split
  · exact keepsSlotLaw_apart s (by simp [State.sendPoll])
  all_goals exact keepsSlotLaw_stand s

theorem execNoResponse_keepsSlotLaw (k : LinkNo) : KeepsSlotLaw s (execNoResponse k s) := by
  unfold execNoResponse
  split
  · exact keepsSlotLaw_stand s
  · exact keepsSlotLaw_apart s (State.exchangeFails_slotParts _ _ _)

theorem execResponseFrame_keepsSlotLaw (k : LinkNo) (bytes : List Byte) (stop : Bool) :
    KeepsSlotLaw s (execResponseFrame k bytes stop s) := by
  unfold execResponseFrame
  split
  · exact keepsSlotLaw_stand s
  · exact keepsSlotLaw_apart s (State.takeFrame_slotParts _ _ _ _ _)

/-! #### Presentations, commits and the sweep (R66–R87, R120) -/

theorem execPresentation_keepsSlotLaw (n : Nat) : KeepsSlotLaw s (execPresentation n s) := by
  unfold execPresentation
  split
  · exact keepsSlotLaw_stand s
  · exact keepsSlotLaw_finish s fun h => State.SlotLawBut.judge (h.of_slotParts (s.withEngine_slotParts _)) _

theorem execCommitIn_keepsSlotLaw (g : Gate) : KeepsSlotLaw s (execCommitIn g s) := by
  unfold execCommitIn
  split
  · split
    · exact keepsSlotLaw_apart s (by simp)
    · exact keepsSlotLaw_stand s
  · split
    · exact keepsSlotLaw_apart s (by simp)
    · exact keepsSlotLaw_stand s
  all_goals exact keepsSlotLaw_stand s

theorem execCommitOut_keepsSlotLaw (g : Gate) : KeepsSlotLaw s (execCommitOut g s) := by
  unfold execCommitOut
  split
  · split
    · exact keepsSlotLaw_apart s (by simp)
    · exact keepsSlotLaw_stand s
  · split
    · exact keepsSlotLaw_apart s (by simp)
    · exact keepsSlotLaw_stand s
  all_goals exact keepsSlotLaw_stand s

theorem execCommitNotPassed_keepsSlotLaw (g : Gate) : KeepsSlotLaw s (execCommitNotPassed g s) := by
  unfold execCommitNotPassed
  split
  · exact keepsSlotLaw_apart s (by simp)
  all_goals exact keepsSlotLaw_stand s

theorem execCommitVoided_keepsSlotLaw (g : Gate) : KeepsSlotLaw s (execCommitVoided g s) := by
  unfold execCommitVoided
  split
  · exact keepsSlotLaw_apart s (by simp)
  all_goals exact keepsSlotLaw_stand s

theorem execSweepTest_keepsSlotLaw : KeepsSlotLaw s (execSweepTest s) := by
  unfold execSweepTest
  split
  · exact keepsSlotLaw_apart s (s.sweepStep_slotParts)
  · exact keepsSlotLaw_stand s

/-! #### The order chain and the orders of the attendance engine (R42–R58, R118, R125, R126, R195, R196) -/

theorem execOrderPointerWrite_keepsSlotLaw (w : Word) : KeepsSlotLaw s (execOrderPointerWrite w s) :=
  keepsSlotLaw_apart s (s.writePointer_slotParts w)

theorem execOrderBlock_keepsSlotLaw : KeepsSlotLaw s (execOrderBlock s) := by
  unfold execOrderBlock
  split
  · exact keepsSlotLaw_apart s (s.readBlock_slotParts)
  · exact keepsSlotLaw_stand s

theorem execSetTime_keepsSlotLaw : KeepsSlotLaw s (execSetTime s) := by
  unfold execSetTime
  split
  · exact keepsSlotLaw_stand s
  · exact keepsSlotLaw_apart s (s.orderTime_slotParts _)

theorem execInstallWorkerTable_keepsSlotLaw : KeepsSlotLaw s (execInstallWorkerTable s) := by
  unfold execInstallWorkerTable
  split
  · exact keepsSlotLaw_stand s
  · split
    · exact keepsSlotLaw_apart s (s.installBegin_slotParts _)
    · exact keepsSlotLaw_stand s

theorem execVerifyNextRecord_keepsSlotLaw : KeepsSlotLaw s (execVerifyNextRecord s) := by
  unfold execVerifyNextRecord
  split
  · split
    · exact keepsSlotLaw_apart s (s.verifyRecord_slotParts _ _)
    · exact keepsSlotLaw_stand s
  all_goals exact keepsSlotLaw_stand s

theorem execCarryBegin_keepsSlotLaw : KeepsSlotLaw s (execCarryBegin s) := by
  unfold execCarryBegin
  split
  · split
    · exact keepsSlotLaw_apart s (s.withEngine_slotParts _)
    · exact keepsSlotLaw_stand s
  all_goals exact keepsSlotLaw_stand s

theorem execMatchedStep_keepsSlotLaw : KeepsSlotLaw s (execMatchedStep s) := by
  unfold execMatchedStep
  split
  · exact keepsSlotLaw_apart s (s.matchStep_slotParts _ _ _)
  all_goals exact keepsSlotLaw_stand s

theorem execOldOnlyStep_keepsSlotLaw : KeepsSlotLaw s (execOldOnlyStep s) := by
  unfold execOldOnlyStep
  split
  · split
    · exact keepsSlotLaw_stand s
    · exact keepsSlotLaw_apart s (s.oldOnlyTry_slotParts _ _ _)
  all_goals exact keepsSlotLaw_stand s

theorem execNewOnlyStep_keepsSlotLaw : KeepsSlotLaw s (execNewOnlyStep s) := by
  unfold execNewOnlyStep
  split
  · exact keepsSlotLaw_apart s (s.carryTaken_slotParts _ _)
  all_goals exact keepsSlotLaw_stand s

theorem execAmendWorker_keepsSlotLaw : KeepsSlotLaw s (execAmendWorker s) := by
  unfold execAmendWorker
  split
  · exact keepsSlotLaw_stand s
  · exact keepsSlotLaw_apart s (s.amend_slotParts _)

theorem execSetPresence_keepsSlotLaw : KeepsSlotLaw s (execSetPresence s) := by
  unfold execSetPresence
  split
  · exact keepsSlotLaw_stand s
  · exact keepsSlotLaw_apart s (s.setPresence_slotParts _)

theorem execTakeTotals_keepsSlotLaw : KeepsSlotLaw s (execTakeTotals s) := by
  unfold execTakeTotals
  split
  · exact keepsSlotLaw_stand s
  · split
    · exact keepsSlotLaw_apart s (s.totalsBegin_slotParts _)
    · exact keepsSlotLaw_stand s

theorem execTakeTotalsWorker_keepsSlotLaw : KeepsSlotLaw s (execTakeTotalsWorker s) := by
  unfold execTakeTotalsWorker
  split
  · exact keepsSlotLaw_apart s (s.takeWorker_slotParts _ _)
  · exact keepsSlotLaw_stand s

theorem execSettleException_keepsSlotLaw : KeepsSlotLaw s (execSettleException s) := by
  unfold execSettleException
  split
  · exact keepsSlotLaw_stand s
  · exact keepsSlotLaw_apart s (s.settleException_slotParts _)

theorem execInstallShiftTable_keepsSlotLaw : KeepsSlotLaw s (execInstallShiftTable s) := by
  unfold execInstallShiftTable
  split
  · exact keepsSlotLaw_stand s
  · exact keepsSlotLaw_apart s (s.installShift_slotParts _)

/-! #### The orders of the doors, the bells and the journal (R141, R149, R160, R168–R170, R182, R198) -/

theorem execInstallBellTable_keepsSlotLaw : KeepsSlotLaw s (execInstallBellTable s) := by
  unfold execInstallBellTable
  split
  · exact keepsSlotLaw_stand s
  · exact keepsSlotLaw_apart s (s.installBells_slotParts _)

theorem execSetGate_keepsSlotLaw : KeepsSlotLaw s (execSetGate s) := by
  unfold execSetGate
  split
  · exact keepsSlotLaw_stand s
  · exact keepsSlotLaw_finish s fun h => h.setGate _

theorem execRearmDoor_keepsSlotLaw : KeepsSlotLaw s (execRearmDoor s) := by
  unfold execRearmDoor
  split
  · exact keepsSlotLaw_stand s
  · exact keepsSlotLaw_finish s fun h => h.rearmOrder _

theorem execFreePassage_keepsSlotLaw : KeepsSlotLaw s (execFreePassage s) := by
  unfold execFreePassage
  split
  · exact keepsSlotLaw_stand s
  · exact keepsSlotLaw_finish s fun h => h.freePassage _

theorem execRing_keepsSlotLaw : KeepsSlotLaw s (execRing s) := by
  unfold execRing
  split
  · exact keepsSlotLaw_stand s
  · exact keepsSlotLaw_finish s fun h => h.ring _

theorem execSilenceBells_keepsSlotLaw : KeepsSlotLaw s (execSilenceBells s) := by
  unfold execSilenceBells
  split
  · exact keepsSlotLaw_stand s
  · exact keepsSlotLaw_finish s fun h => h.silence _

theorem execClearStatus_keepsSlotLaw : KeepsSlotLaw s (execClearStatus s) := by
  unfold execClearStatus
  split
  · exact keepsSlotLaw_stand s
  · exact keepsSlotLaw_finish s fun h => h.clearStatus.answer _ _

theorem execJournalRestart_keepsSlotLaw : KeepsSlotLaw s (execJournalRestart s) := by
  unfold execJournalRestart
  split
  · exact keepsSlotLaw_stand s
  · exact keepsSlotLaw_apart s (s.restartJournal_slotParts)

/-! #### The door channels (R129–R140) -/

/-- A run of coil samples leaves the door's state to the event it brings. -/
theorem State.coilRun_keepsSlotLaw (g : Gate) (named : CoilEvents → Bool) (xs : List CoilSample) :
    KeepsSlotLaw s (s.coilRun g named xs) := by
  have hfed : s.SlotLawBut .nobody → (s.setDoor g ((s.door g).feed xs).1).SlotLawBut .nobody := fun h =>
    h.setDoor_sameState (Door.feed_state _ xs)
  unfold State.coilRun
  dsimp only
  split
  · split
    · exact keepsSlotLaw_finish s fun h => (hfed h).coilEvents g _
    · exact keepsSlotLaw_stand s
  · exact keepsSlotLaw_finish s hfed

/-- A run of contact samples leaves the door's state to the event it brings. -/
theorem State.contactRun_keepsSlotLaw (g : Gate) (named : ContactEvent → Bool) (xs : List Contact) :
    KeepsSlotLaw s (s.contactRun g named xs) := by
  have hfed : s.SlotLawBut .nobody → (s.setDoor g ((s.door g).feedContact xs).1).SlotLawBut .nobody := fun h =>
    h.setDoor_sameState (Door.feedContact_state _ xs)
  unfold State.contactRun
  dsimp only
  split
  · split
    · exact keepsSlotLaw_finish s hfed
    · split
      · exact keepsSlotLaw_finish s fun h => (hfed h).contactActs g _
      · exact keepsSlotLaw_stand s
  · exact keepsSlotLaw_stand s

theorem execOpenTimerExpiry_keepsSlotLaw (g : Gate) : KeepsSlotLaw s (execOpenTimerExpiry g s) := by
  unfold execOpenTimerExpiry
  split
  · exact keepsSlotLaw_finish s fun h => ((h.reportServed g _).toIdle g).of_except
  · exact keepsSlotLaw_stand s

theorem execHeldOpen_keepsSlotLaw (g : Gate) : KeepsSlotLaw s (execHeldOpen g s) := by
  unfold execHeldOpen
  split
  · exact keepsSlotLaw_finish s fun h => State.SlotLawBut.doorNotice_latch h.setDoor_sameState g _ _ _ _
  · exact keepsSlotLaw_stand s

theorem execOpenLoadTest_keepsSlotLaw (g : Gate) (passed : Bool) : KeepsSlotLaw s (execOpenLoadTest g passed s) := by
  unfold execOpenLoadTest
  split
  · refine keepsSlotLaw_finish s fun h => ?_
    split
    · exact h.loadTestPasses g
    · exact h.loadTestFails g
  · exact keepsSlotLaw_stand s

/-! #### The coil supply (R151–R153) -/

theorem State.supplyRun_keepsSlotLaw (e : SupplyEvent) (vs : List Nat) : KeepsSlotLaw s (s.supplyRun e vs) := by
  have hfed : s.SlotLawBut .nobody → (s.withSupply (s.supply.feed vs).1).SlotLawBut .nobody := fun h =>
    h.of_slotParts (s.withSupply_slotParts _)
  unfold State.supplyRun
  dsimp only
  split
  · exact keepsSlotLaw_finish s hfed
  · split
    · refine keepsSlotLaw_finish s fun h => ?_
      split
      · exact (hfed h).takeLow
      · exact (hfed h).takeNormal
    · exact keepsSlotLaw_stand s

/-! #### The bells and the journal writer (R164–R167, R180–R183) -/

theorem execPendingFreeSendDue_keepsSlotLaw (g : Gate) : KeepsSlotLaw s (execPendingFreeSendDue g s) := by
  unfold execPendingFreeSendDue
  split
  · exact keepsSlotLaw_stand s
  · split
    · exact keepsSlotLaw_finish s fun h => State.SlotLawBut.sendFree (h.of_slotParts (s.setFreeSend_slotParts g none)) g _ _
    · exact keepsSlotLaw_stand s

theorem execBellClaim_keepsSlotLaw (n : LineNo) : KeepsSlotLaw s (execBellClaim n s) := by
  unfold execBellClaim
  split
  · next hn => exact keepsSlotLaw_finish s fun h => h.placeBellClaim n hn
  · exact keepsSlotLaw_stand s

theorem execPulseStart_keepsSlotLaw (n : LineNo) : KeepsSlotLaw s (execPulseStart n s) := by
  unfold execPulseStart
  dsimp only
  split
  · next hn => exact keepsSlotLaw_finish s fun h => h.startPulse n hn.1 hn.2.1
  · exact keepsSlotLaw_stand s

theorem execBellSlotRelease_keepsSlotLaw (n : LineNo) : KeepsSlotLaw s (execBellSlotRelease n s) := by
  unfold execBellSlotRelease
  split
  · exact keepsSlotLaw_stand s
  · next ht =>
    split
    · exact keepsSlotLaw_finish s fun h => h.releaseLine n ht
    · exact keepsSlotLaw_stand s

theorem execPulseEnd_keepsSlotLaw (n : LineNo) : KeepsSlotLaw s (execPulseEnd n s) := by
  unfold execPulseEnd
  dsimp only
  split
  · exact keepsSlotLaw_finish s fun h => h.endPulse n
  · exact keepsSlotLaw_stand s

theorem execSettleEnd_keepsSlotLaw (n : LineNo) : KeepsSlotLaw s (execSettleEnd n s) := by
  unfold execSettleEnd
  dsimp only
  split
  · exact keepsSlotLaw_finish s fun h => (h.endSettle n).of_slotParts (State.stopCheck_slotParts _)
  · exact keepsSlotLaw_stand s

theorem execReleaseWalk_keepsSlotLaw : KeepsSlotLaw s (execReleaseWalk s) :=
  keepsSlotLaw_apart s (s.releaseWalk_slotParts)

theorem execDamageRecheck_keepsSlotLaw : KeepsSlotLaw s (execDamageRecheck s) := by
  unfold execDamageRecheck
  split
  · exact keepsSlotLaw_apart s (s.withJournal_slotParts _)
  · exact keepsSlotLaw_stand s

theorem execJournalHoldExpiry_keepsSlotLaw : KeepsSlotLaw s (execJournalHoldExpiry s) := by
  unfold execJournalHoldExpiry
  split
  · exact keepsSlotLaw_stand s
  · split
    · exact keepsSlotLaw_apart s (s.withJournal_slotParts _)
    · exact keepsSlotLaw_stand s

/-! #### The step -/

theorem exec_keepsSlotLaw (i : Instr) : KeepsSlotLaw s (exec i s) := by
  cases i with
  | powerUp supply => exact execPowerUp_keepsSlotLaw s supply
  | hostRestart => exact execHostRestart_keepsSlotLaw s
  | tick => exact execTick_keepsSlotLaw s
  | localMinuteRoll => exact execLocalMinuteRoll_keepsSlotLaw s
  | mark hi lo dow check => exact execMark_keepsSlotLaw s hi lo dow check
  | poll link => exact execPoll_keepsSlotLaw s link
  | noResponse link => exact execNoResponse_keepsSlotLaw s link
  | responseFrame link bytes stopBits => exact execResponseFrame_keepsSlotLaw s link bytes stopBits
  | presentation n => exact execPresentation_keepsSlotLaw s n
  | commitIn g => exact execCommitIn_keepsSlotLaw s g
  | commitOut g => exact execCommitOut_keepsSlotLaw s g
  | commitNotPassed g => exact execCommitNotPassed_keepsSlotLaw s g
  | commitVoided g => exact execCommitVoided_keepsSlotLaw s g
  | sweepTest => exact execSweepTest_keepsSlotLaw s
  | orderPointerWrite w => exact execOrderPointerWrite_keepsSlotLaw s w
  | orderBlock => exact execOrderBlock_keepsSlotLaw s
  | setTime => exact execSetTime_keepsSlotLaw s
  | installWorkerTable => exact execInstallWorkerTable_keepsSlotLaw s
  | carryBegin => exact execCarryBegin_keepsSlotLaw s
  | matchedStep => exact execMatchedStep_keepsSlotLaw s
  | oldOnlyStep => exact execOldOnlyStep_keepsSlotLaw s
  | newOnlyStep => exact execNewOnlyStep_keepsSlotLaw s
  | amendWorker => exact execAmendWorker_keepsSlotLaw s
  | setPresence => exact execSetPresence_keepsSlotLaw s
  | takeTotals => exact execTakeTotals_keepsSlotLaw s
  | takeTotalsWorker => exact execTakeTotalsWorker_keepsSlotLaw s
  | settleException => exact execSettleException_keepsSlotLaw s
  | installShiftTable => exact execInstallShiftTable_keepsSlotLaw s
  | installBellTable => exact execInstallBellTable_keepsSlotLaw s
  | setGate => exact execSetGate_keepsSlotLaw s
  | rearmDoor => exact execRearmDoor_keepsSlotLaw s
  | freePassage => exact execFreePassage_keepsSlotLaw s
  | ring => exact execRing_keepsSlotLaw s
  | silenceBells => exact execSilenceBells_keepsSlotLaw s
  | clearStatus => exact execClearStatus_keepsSlotLaw s
  | journalRestart => exact execJournalRestart_keepsSlotLaw s
  | controlWrite w => exact execControlWrite_keepsSlotLaw s w
  | memoryFault cut => exact execMemoryFault_keepsSlotLaw s cut
  | attentionWrite w => exact execAttentionWrite_keepsSlotLaw s w
  | attentionEnableWrite w => exact execAttentionEnableWrite_keepsSlotLaw s w
  | registerWrite _ _ => exact keepsSlotLaw_stand s
  | stretchTimerExpiry => exact execStretchTimerExpiry_keepsSlotLaw s
  | valleyComplete g samples => exact s.coilRun_keepsSlotLaw g _ samples
  | hitEnd g samples => exact s.coilRun_keepsSlotLaw g _ samples
  | openTimerExpiry g => exact execOpenTimerExpiry_keepsSlotLaw s g
  | resistanceWindow g samples => exact s.coilRun_keepsSlotLaw g _ samples
  | contactOpening g samples => exact s.contactRun_keepsSlotLaw g _ samples
  | contactClosing g samples => exact s.contactRun_keepsSlotLaw g _ samples
  | heldOpen g => exact execHeldOpen_keepsSlotLaw s g
  | overcurrent g samples => exact s.coilRun_keepsSlotLaw g _ samples
  | openLoadTest g passed => exact execOpenLoadTest_keepsSlotLaw s g passed
  | supplyLow samples => exact s.supplyRun_keepsSlotLaw _ samples
  | supplyNormal samples => exact s.supplyRun_keepsSlotLaw _ samples
  | pendingFreeSendDue g => exact execPendingFreeSendDue_keepsSlotLaw s g
  | bellClaim n => exact execBellClaim_keepsSlotLaw s n
  | pulseStart n => exact execPulseStart_keepsSlotLaw s n
  | bellSlotRelease n => exact execBellSlotRelease_keepsSlotLaw s n
  | pulseEnd n => exact execPulseEnd_keepsSlotLaw s n
  | settleEnd n => exact execSettleEnd_keepsSlotLaw s n
  | releaseWalk => exact execReleaseWalk_keepsSlotLaw s
  | damageRecheck => exact execDamageRecheck_keepsSlotLaw s
  | journalHoldExpiry => exact execJournalHoldExpiry_keepsSlotLaw s
  | startChecksDone => exact execStartChecksDone_keepsSlotLaw s
  | verifyNextRecord => exact execVerifyNextRecord_keepsSlotLaw s
  | contactTaken g samples => exact s.contactRun_keepsSlotLaw g _ samples
  | moved g samples => exact s.coilRun_keepsSlotLaw g _ samples

theorem step_keepsSlotLaw : KeepsSlotLaw s (step s) := by
  unfold step
  split
  · exact keepsSlotLaw_stand s
  · next i rest _ => exact fun h => exec_keepsSlotLaw { s with pending := rest } i (h.of_slotParts rfl)

end

/-- Settles O5: every step keeps the law (`step_keepsSlotLaw`), and under the law all that are in their hit phase are the one
holder. -/
theorem everyStepKeepsTheHitSlotLaw : Obligations.EveryStepKeepsTheHitSlotLaw := by
  intro s t hs hstep
  have ht : t.slotLaw := t.slotLaw_iff.mpr (step_keepsSlotLaw s (s.slotLaw_iff.mp hs) t hstep)
  obtain ⟨-, hdoor, hline, -⟩ := id ht
  refine ⟨ht, fun g k hg hk => ?_, fun g n hg => ?_, fun n k hn hk => ?_⟩
  · simpa using (hdoor g hg).symm.trans (hdoor k hk)
  · cases hn : (t.line n).releaseAt with
    | none => rfl
    | some x =>
      have hheld := (hdoor g hg).symm.trans (hline n (by rw [hn]; rfl))
      simp at hheld
  · simpa using (hline n hn).symm.trans (hline k hk)

end Sys2Proof.Machine

/-! ### JOURNAL RESTART: its answer leaves the emptied journal, and the room it gives back is offered to no one (R176, R182, R196) -/

namespace Sys2Proof.Machine

section
variable (s : State)

/-! #### The answer of an order does not look at the journal (R192, R196, R197) -/

theorem State.stopCheck_withJournal (j : Journal) : (s.withJournal j).stopCheck = s.stopCheck.withJournal j := by
  have hquiet : (s.withJournal j).quiet = s.quiet := rfl
  by_cases hstop : s.control.runState = .stopping ∧ s.quiet = true
  · cases hrequest : s.control.runRequest <;> simp [State.stopCheck, hquiet, hstop, hrequest] <;> rfl
  · simp [State.stopCheck, hquiet, hstop]

theorem State.endWalk_withJournal (j : Journal) : (s.withJournal j).endWalk = s.endWalk.withJournal j :=
  ((s.withOrders OrderUnit.reset).latch .setOrdersDone).stopCheck_withJournal j

theorem State.finishBlock_withJournal (j : Journal) (link : Word) (r : OrderResult) :
    (s.withJournal j).finishBlock link r = (s.finishBlock link r).withJournal j := by
  have hstore : (s.withJournal j).store (s.orders.current + 8) r.word =
    (s.store (s.orders.current + 8) r.word).withJournal j := rfl
  simp only [State.finishBlock, State.withJournal_orders, hstore]
  split
  · exact State.endWalk_withJournal _ j
  · rfl

theorem State.answer_withJournal (j : Journal) (outs : List Word) (r : OrderResult) :
    (s.withJournal j).answer outs r = (s.answer outs r).withJournal j := by
  simp only [State.answer, State.withJournal_orders]
  split
  · rfl
  · next h _ => exact (s.storeAll (s.orders.current + 12 + 4 * h.params.length) outs).finishBlock_withJournal j h.link r

/-- Out of STOPPING an answer writes ORDERS_DONE, the order unit and common memory (R196, R197). -/
theorem State.answer_frame (outs : List Word) (r : OrderResult) (hrun : s.control.runState ≠ .stopping) :
    ∃ b o m, s.answer outs r =
      { s with control := { s.control with latched := { s.control.latched with ordersDone := b } }, orders := o, mem := m } := by
  unfold State.answer
  split
  · exact ⟨_, _, _, rfl⟩
  · unfold State.finishBlock
    dsimp only
    split
    · rw [State.endWalk_running]
      · exact ⟨_, _, _, rfl⟩
      · exact hrun
    · exact ⟨_, _, _, rfl⟩

end

/-! #### The end of an event that gave room back with no one waiting (R176) -/

/-- The journal with its room offered. -/
def Journal.offered (j : Journal) : Journal := { j with roomGiven := false }

theorem settled_endsAs_offered (before : State) {after : State} (hwait : after.noneWaitsForRoom) :
    EndsAs (after.withJournal after.journal.offered) (settled before after) := by
  have hoffer : after.offerRoom = (after.withJournal after.journal.offered).offerRoom :=
    (State.offerRoom_unwanted _ hwait).trans (State.offerRoom_none _ rfl).symm
  rw [settled, hoffer]
  exact settled_endsAs before _ rfl

theorem EndsAs.journal_eq {u t : State} (h : EndsAs u t) : t.journal = u.journal := by
  rw [h.1]

theorem EndsAs.latched_eq {u t : State} (h : EndsAs u t) : t.control.latched = u.control.latched := by
  rw [h.1]

/-! #### The order acted on (R182, R183) -/

theorem State.fillRead_eq_zero {s : State} (h : s.journal.unreleased = 0) : s.fillRead = 0 := by
  rw [State.fillRead, State.journalFill, h]
  rfl

/-- JOURNAL RESTART answered with JOURNAL_DAMAGED cleared, the journal still as it stood (R182). -/
def State.restartAnswered (s : State) : State :=
  (s.latch fun l => { l with journalDamaged := false }).answer [BitVec.ofNat 32 s.journal.unreleased] .done

theorem State.restartJournal_eq (s : State) : s.restartJournal = s.restartAnswered.withJournal s.journal.restart :=
  (s.latch fun l => { l with journalDamaged := false }).answer_withJournal s.journal.restart _ .done

theorem State.restartAnswered_frame (s : State) (hrun : s.control.runState = .running) :
    ∃ b o m, s.restartAnswered = { s with
      control := { s.control with latched := { s.control.latched with journalDamaged := false, ordersDone := b } },
      orders := o, mem := m } :=
  (s.latch fun l => { l with journalDamaged := false }).answer_frame _ .done (by simp [State.latch, hrun])

theorem exec_journalRestart_eq {s : State} {h : InHand} (hin : s.orders.inHand = some h) (ho : h.order = .journalRestart) :
    exec .journalRestart s = .next (settled s s.restartJournal) := by
  have hexec : exec .journalRestart s = execJournalRestart s := rfl
  rw [hexec, execJournalRestart, State.inHandIs_eq hin ho]
  rfl

/-- Settles O46: no one takes the room that the restart gives back, so the event ends as the order's answer over the emptied
journal, and neither shows a record or damage. -/
theorem journalRestartDiscardsTheUnreleased : Obligations.JournalRestartDiscardsTheUnreleased := by
  intro h s hb hin ho hrun hwait j l
  obtain ⟨b, o, m, hframe⟩ := s.restartAnswered_frame hrun
  have hwaits : s.restartJournal.noneWaitsForRoom := by
    rw [s.restartJournal_eq, hframe]
    exact hwait
  have hends : EndsAs (s.restartAnswered.withJournal j) (settled s s.restartJournal) := by
    have hj : s.journal.restart.offered = j := by simp only [Journal.offered, Journal.restart, j, ← hb]
    have hoffered := settled_endsAs_offered s hwaits
    rw [← hj]
    rwa [s.restartJournal_eq] at hoffered ⊢
  refine ⟨settled s s.restartJournal, exec_journalRestart_eq hin ho, ?_, ?_, ?_⟩
  · exact State.fillRead_eq_zero (by rw [hends.journal_eq]; rfl)
  · rw [hends.latched_eq, hframe]
    rfl
  · have hanswer : (({ s with journal := j, control := { s.control with latched := l } } : State).answer
        [BitVec.ofNat 32 s.journal.unreleased] .done) = s.restartAnswered.withJournal j :=
      (s.latch fun l => { l with journalDamaged := false }).answer_withJournal j _ .done
    rw [hanswer]
    exact hends

end Sys2Proof.Machine
